-- ==== Sys2Proof/Word.lean ====
section
/-! DEFINITION. The value types of the MD5 CORE (spec 00_scope R9, R10; 10_state R20): every value is an unsigned
integer of a stated width, bit 0 the least significant. Nothing here computes. -/

namespace Sys2Proof

/-- 8 bits (R9): a message byte, a cell of BUF, an ASCII code. -/
abbrev Byte := BitVec 8

/-- 32 bits (R9): an accumulator, a working register, a message word, a table constant. -/
abbrev Word := BitVec 32

/-- 64 bits: COUNT and its snapshot LEN (R24, R141). -/
abbrev Count := BitVec 64

/-- 6 bits: PLEN, an offset into BUF, the round index (R20, R28, R40). -/
abbrev Index := BitVec 6

/-- 10 bits: one word presented on the command port (R61, R62). -/
abbrev Beat := BitVec 10

/-- 128 bits: the output register DIGEST (R30). -/
abbrev Digest := BitVec 128

/-- Four words under the names the spec gives them: the accumulators A, B, C, D (R21) or the working
registers a, b, c, d of a Transform (R107). -/
structure Quad where
  a : Word
  b : Word
  c : Word
  d : Word
  deriving DecidableEq, Repr

/-- Exactly 64 bytes, the byte that arrived first at index 0: the only thing Transform is ever given
(R41, R105, 93_implementation_defined U6). -/
abbrev Block := Vector Byte 64

end Sys2Proof
end

