-- ==== Sys2Proof/Config.lean ====
section
/-! DEFINITION. What is fixed for the hardware (R7, R8, R21) and the values the spec leaves unspecified after a reset
(R32, R190). None of it changes as the machine runs; the model has no parameter (92_eei_decisions, preamble). -/

namespace Sys2Proof.Config

/-- A after construction, INIT, FINAL and reset (R21). -/
def initA : Word := 0x67452301#32

/-- B after construction, INIT, FINAL and reset (R21). -/
def initB : Word := 0xefcdab89#32

/-- C after construction, INIT, FINAL and reset (R21). -/
def initC : Word := 0x98badcfe#32

/-- D after construction, INIT, FINAL and reset (R21). -/
def initD : Word := 0x10325476#32

/-- The four initial accumulators in the order A, B, C, D (R21). -/
def initAcc : Quad := ⟨initA, initB, initC, initD⟩

/-- The number of byte cells of BUF, one whole block (R7, R8, R26). -/
def blockBytes : Nat := 64

/-- What an unlisted cell of BUF reads as. DESIGN CHOICE, unsafe (assumption log 1): the spec leaves the cell
unspecified (R26, R32) and no command's result depends on it (R50). -/
def unlistedByte : Byte := 0x00#8

/-- FREE VALUE (assumption log 2): the byte that cell `offset` of BUF holds after reset number `draw` of a run;
the spec leaves it unspecified (R32, R190). -/
opaque freeBufByte (draw offset : Nat) : Byte

/-- FREE VALUE (assumption log 2): what DIGEST holds after reset number `draw` of a run; the spec leaves it
unspecified while DVALID is 0 (R30, R32, R190). -/
opaque freeDigest (draw : Nat) : Digest

end Sys2Proof.Config
end

