-- ==== Sys2Proof/Syntax.lean ====
section
/-! DEFINITION. What the MD5 CORE executes, as syntax: one constructor of Instr per row of spec/opcode_table.json
(four of format BEAT, sixty-four of format ROUND; R60, R75), the record of a round-table entry (R67) and the two
encoded forms an instruction arrives in. No meaning stands here. -/

namespace Sys2Proof

/-- The mixing-function selector of a round-table entry: 0 = F, 1 = G, 2 = H, 3 = I (R67, R97). -/
inductive MixSel where
  | f
  | g
  | h
  | i
  deriving DecidableEq, Repr

/-- One entry of the round table (format ROUND, R67): mixing function, index of the message word, left-rotation
amount, additive constant. -/
structure RoundEntry where
  sel : MixSel
  k : BitVec 4
  s : BitVec 5
  t : Word
  deriving DecidableEq, Repr

/-- One constructor per row of spec/opcode_table.json. The four commands carry the beat's whole `data` field
(R62): the message byte for DATA, an ignored byte for the others (R64), kept so that no bit of a beat is lost. The
sixty-four micro-operations of Transform carry no operand: the round index alone names the entry (R67). -/
inductive Instr where
  /-- IDLE (R127). -/
  | idle (ignored : Byte)
  /-- DATA b (R128). -/
  | data (b : Byte)
  /-- FINAL (R151). -/
  | final (ignored : Byte)
  /-- INIT (R126). -/
  | init (ignored : Byte)
  -- pass 0 (R109)
  | step00
  | step01
  | step02
  | step03
  | step04
  | step05
  | step06
  | step07
  | step08
  | step09
  | step10
  | step11
  | step12
  | step13
  | step14
  | step15
  -- pass 1 (R110)
  | step16
  | step17
  | step18
  | step19
  | step20
  | step21
  | step22
  | step23
  | step24
  | step25
  | step26
  | step27
  | step28
  | step29
  | step30
  | step31
  -- pass 2 (R111)
  | step32
  | step33
  | step34
  | step35
  | step36
  | step37
  | step38
  | step39
  | step40
  | step41
  | step42
  | step43
  | step44
  | step45
  | step46
  | step47
  -- pass 3 (R112)
  | step48
  | step49
  | step50
  | step51
  | step52
  | step53
  | step54
  | step55
  | step56
  | step57
  | step58
  | step59
  | step60
  | step61
  | step62
  | step63
  deriving DecidableEq, Repr

/-- The two encoded forms of R60 that carry an instruction: a beat on the command port, or a round index inside a
Transform. -/
inductive Encoded where
  | beat (w : Beat)
  | round (i : Index)
  deriving DecidableEq, Repr

/-- The two formats of spec/opcode_table.json. -/
inductive Format where
  | beat
  | round
  deriving DecidableEq, Repr

/-- A number of any size offered as a word of a format, before anything has been checked. -/
structure RawWord where
  format : Format
  bits : Nat
  deriving DecidableEq, Repr

/-- The number of bits of a word of the format: 10 for a beat (R62), 6 for a round index (R67). -/
def Format.width : Format → Nat
  | .beat => 10
  | .round => 6

end Sys2Proof
end

