-- ==== Sys2Proof/Machine/State.lean ====
section
/-! DEFINITION. The state of the MD5 CORE as plain data (R20, R33), what the host may present to it (R160), the
reasons a step could stop, and the state right after reset (R32, R190). -/

namespace Sys2Proof.Machine

/-- The block buffer BUF, the only memory (R40): (offset, byte) pairs in one canonical form, offsets strictly
rising and below 64, no entry equal to what an unlisted cell reads as (`Memory.wf` in Machine/Ops.lean). -/
abbrev Memory := List Host.Cell

/-- A Transform in progress: hidden state that is live inside a command only (R28, R33 a and c). The accumulators
A, B, C, D themselves keep the values from before the block (R33 b, R107); the message words are a view of BUF and
no storage (R33 d, R41). -/
structure Running where
  /-- The round index i: the step that comes next (R28). -/
  index : Index
  /-- The working registers a, b, c, d (R107). -/
  work : Quad
  deriving DecidableEq, Repr

/-- A FINAL in progress: hidden state that is live inside FINAL only (R33 e and f). -/
structure Finishing where
  /-- The length snapshot LEN (R141). -/
  len : Count
  /-- The padding length padn (R142). -/
  padn : Nat
  /-- The padding engine's position: how many of the padding and length bytes it has appended. -/
  pos : Nat
  deriving DecidableEq, Repr

/-- One thing the host does at the block's inputs (R160). -/
inductive Input where
  /-- A beat presented on the command port (R61). -/
  | beat (w : Beat)
  /-- The reset input asserted, together with the beat presented with it, if any (R178). -/
  | reset (w : Option Beat)
  deriving DecidableEq, Repr

/-- The state of one instance of the MD5 CORE. -/
structure State where
  /-- The accumulators A, B, C, D (R21). -/
  acc : Quad
  /-- COUNT: message bits since the last initial condition, modulo 2^64 (R24). -/
  count : Count
  /-- PLEN: the number of valid pending bytes, 0 to 63 (R25). -/
  plen : Index
  /-- BUF (R26, R40). -/
  buf : Memory
  /-- DIGEST: the output register (R30). -/
  digest : Digest
  /-- DVALID: the output flag (R29). -/
  dvalid : Bool
  /-- The Transform in progress; none at every command boundary (R28, R33). -/
  running : Option Running
  /-- The FINAL in progress; none at every command boundary (R33). -/
  finishing : Option Finishing
  /-- MODEL'S OWN (assumption log 4): what the host will present and the block has not taken yet, first one first
  (R61: one beat at a time; R194: the input is a sequence). -/
  port : List Input
  /-- MODEL'S OWN (assumption log 2): how many resets have drawn free values. -/
  draws : Nat
  deriving DecidableEq, Repr

/-- The faults of the machine: THERE ARE NONE (R171, R176: the block raises no exception, every command is defined in
every state, the step function has no fault outcome), so nothing raises one, and this is neither safe nor unsafe. -/
inductive Fault where
  deriving DecidableEq, Repr

/-- The refusals. R176 excludes every refusal of a beat, so no meaning answers with one. -/
inductive Refusal where
  /-- Raised by an arm of exec that has no meaning yet, and by nothing else; safe (the model stops where the hardware
  goes on). Every arm of this model has its meaning, so it is never raised. -/
  | notModelled (mnemonic : String)
  deriving DecidableEq, Repr

/-- The machine right after reset (R32, R190): A, B, C, D, COUNT, PLEN and DVALID as the spec states; nothing in
progress (R28, R33); no beat presented (R191: it waits for its first beat). BUF with nothing listed and DIGEST = 0 are
DESIGN CHOICE, unsafe (assumption logs 1 and 3): the spec leaves both unspecified. -/
def State.reset : State where
  acc := Config.initAcc
  count := 0#64
  plen := 0#6
  buf := []
  digest := 0#128
  dvalid := false
  running := none
  finishing := none
  port := []
  draws := 0

end Sys2Proof.Machine
end

