-- ==== Sys2Proof/Machine/Flags.lean ====
section
/-! DEFINITION. The flags (R29): the MD5 CORE has no carry, overflow, zero or any other condition flag; its one flag
is the output flag DVALID, set by FINAL and cleared by the reset input only. -/

namespace Sys2Proof.Machine

/-- DVALID <- v; nothing else changes. -/
def State.setDvalid (s : State) (v : Bool) : State := { s with dvalid := v }

/-- FINAL's flag effect (R29, R149): DVALID <- 1. -/
def State.raiseDvalid (s : State) : State := s.setDvalid true

/-- The reset input's flag effect (R29, R190): DVALID <- 0. -/
def State.clearDvalid (s : State) : State := s.setDvalid false

end Sys2Proof.Machine
end

