-- ==== Sys2Proof/Machine/Datapath.lean ====
section
/-! DEFINITION. The 32-bit rotation and modular-addition datapath (spec 40_datapath, R85 to R104): pure, total,
unsigned, no flag and no exception. -/

namespace Sys2Proof.Machine

/-- NOT32 (R86): the complement within 32 bits. -/
def not32 (x : Word) : Word := ~~~x

/-- AND32 (R87). -/
def and32 (x y : Word) : Word := x &&& y

/-- OR32 (R88). -/
def or32 (x y : Word) : Word := x ||| y

/-- XOR32 (R89). -/
def xor32 (x y : Word) : Word := x ^^^ y

/-- ADD32 (R90): the sum modulo 2^32, the carry discarded. -/
def add32 (x y : Word) : Word := x + y

/-- SUM4 (R91): the sum of four words modulo 2^32. -/
def sum4 (w x y z : Word) : Word := add32 (add32 (add32 w x) y) z

/-- INC64 (R101): the counter step for one byte, 8 modulo 2^64. -/
def inc64 (c : Count) : Count := c + 8#64

/-- ROTL32 (R92): rotation left within 32 bits by an amount of 0 to 31; 0 gives x, because a right shift by 32
leaves nothing. -/
def rotl32 (x : Word) (s : BitVec 5) : Word := (x <<< s.toNat) ||| (x >>> (32 - s.toNat))

/-- F (R93). -/
def mixF (x y z : Word) : Word := or32 (and32 x y) (and32 (not32 x) z)

/-- G (R94). -/
def mixG (x y z : Word) : Word := or32 (and32 x z) (and32 y (not32 z))

/-- H (R95). -/
def mixH (x y z : Word) : Word := xor32 (xor32 x y) z

/-- I (R96). -/
def mixI (x y z : Word) : Word := xor32 y (or32 x (not32 z))

/-- MIX (R97): the selector of the round table made into a function. -/
def mix : MixSel → Word → Word → Word → Word
  | .f => mixF
  | .g => mixG
  | .h => mixH
  | .i => mixI

/-- UNLE32 (R98): the word whose least significant byte is the first. -/
def unle32 (b0 b1 b2 b3 : Byte) : Word := b3 ++ b2 ++ b1 ++ b0

/-- LE32 (R99): the four bytes of a word, least significant first. -/
def le32 (v : Word) : List Byte :=
  [v.extractLsb' 0 8, v.extractLsb' 8 8, v.extractLsb' 16 8, v.extractLsb' 24 8]

/-- LE64 (R100): the eight bytes of a counter value, byte n being bits 8n+7:8n. -/
def le64 (c : Count) : List Byte :=
  [c.extractLsb' 0 8, c.extractLsb' 8 8, c.extractLsb' 16 8, c.extractLsb' 24 8,
   c.extractLsb' 32 8, c.extractLsb' 40 8, c.extractLsb' 48 8, c.extractLsb' 56 8]

/-- HEXNIB (R103): the ASCII code of one lowercase hexadecimal digit. -/
def hexNib (n : BitVec 4) : Byte :=
  if n.toNat < 10 then 0x30#8 + n.setWidth 8 else 0x61#8 + (n.setWidth 8 - 10#8)

/-- HEXBYTE (R104): two characters, the high nibble first. -/
def hexByte (b : Byte) : List Byte := [hexNib (b.extractLsb' 4 4), hexNib (b.extractLsb' 0 4)]

end Sys2Proof.Machine
end

