-- ==== Sys2Proof/Machine/Operands.lean ====
section
/-! DEFINITION. Every form in which a multi-byte operand is assembled or taken apart (R69): the padding and length
bytes of FINAL, the sixteen digest bytes, the packing of DIGEST, and the HEX view. The data byte of a beat is used as
it is (R69); the message words are `blockWord` (R41). -/

namespace Sys2Proof.Machine

/-- padn, the padding length, from the pending length p (R142). -/
def padLength (p : Index) : Nat := if p.toNat < 56 then 56 - p.toNat else 120 - p.toNat

/-- The padding bytes for a padding length (R143): 0x80, then zeros. -/
def paddingBytes (padn : Nat) : List Byte := 0x80#8 :: List.replicate (padn - 1) 0x00#8

/-- Everything FINAL appends, in order (R151): the padding, then the length field LE64(LEN) (R144). -/
def finalBytes (len : Count) (padn : Nat) : List Byte := paddingBytes padn ++ le64 len

/-- Serialisation (R147): the sixteen digest bytes DG, accumulators in the order A, B, C, D, each little-endian. -/
def serialise (q : Quad) : List Byte := le32 q.a ++ le32 q.b ++ le32 q.c ++ le32 q.d

/-- The number whose little-endian bytes are given: byte n is worth 2^(8n). -/
def leValue : List Byte → Nat
  | [] => 0
  | b :: bs => b.toNat + 256 * leValue bs

/-- Packing of DIGEST (R70): digest byte n at bits 8n+7:8n. -/
def packDigest (dg : List Byte) : Digest := BitVec.ofNat 128 (leValue dg)

/-- Digest byte n of DIGEST (R70). -/
def digestByte (d : Digest) (n : Nat) : Byte := d.extractLsb' (8 * n) 8

/-- The sixteen digest bytes of DIGEST, in order (R70). -/
def digestBytes (d : Digest) : List Byte := (List.range 16).map (digestByte d)

/-- Rendering (R148): the hexadecimal characters of a byte sequence, high nibble first. -/
def renderHex (bytes : List Byte) : List Byte := bytes.flatMap hexByte

/-- HX, the 32 characters of the HEX view (R71): a pure function of DIGEST, no state of its own. -/
def hexView (d : Digest) : List Byte := renderHex (digestBytes d)

/-- The HEX view as the 256-bit port: character m at HEX[8m+7:8m] (R71). -/
def hexPort (d : Digest) : BitVec 256 := BitVec.ofNat 256 (leValue (hexView d))

end Sys2Proof.Machine
end

