-- ==== Sys2Proof/Machine/RoundTable.lean ====
section
/-! DEFINITION. The round table (R113): sixty-four constant entries, literals as the spec lists them, selected by the
6-bit round index (R67); not writable, no reset behaviour (R38, R40, R54). -/

namespace Sys2Proof.Machine

/-- Entries 0 to 15 of TABLE, mixing function F (R113, R68). -/
def tablePass0 : List RoundEntry :=
  [⟨.f, 0#4, 7#5, 0xd76aa478#32⟩,
   ⟨.f, 1#4, 12#5, 0xe8c7b756#32⟩,
   ⟨.f, 2#4, 17#5, 0x242070db#32⟩,
   ⟨.f, 3#4, 22#5, 0xc1bdceee#32⟩,
   ⟨.f, 4#4, 7#5, 0xf57c0faf#32⟩,
   ⟨.f, 5#4, 12#5, 0x4787c62a#32⟩,
   ⟨.f, 6#4, 17#5, 0xa8304613#32⟩,
   ⟨.f, 7#4, 22#5, 0xfd469501#32⟩,
   ⟨.f, 8#4, 7#5, 0x698098d8#32⟩,
   ⟨.f, 9#4, 12#5, 0x8b44f7af#32⟩,
   ⟨.f, 10#4, 17#5, 0xffff5bb1#32⟩,
   ⟨.f, 11#4, 22#5, 0x895cd7be#32⟩,
   ⟨.f, 12#4, 7#5, 0x6b901122#32⟩,
   ⟨.f, 13#4, 12#5, 0xfd987193#32⟩,
   ⟨.f, 14#4, 17#5, 0xa679438e#32⟩,
   ⟨.f, 15#4, 22#5, 0x49b40821#32⟩]

/-- Entries 16 to 31 of TABLE, mixing function G (R113, R68). -/
def tablePass1 : List RoundEntry :=
  [⟨.g, 1#4, 5#5, 0xf61e2562#32⟩,
   ⟨.g, 6#4, 9#5, 0xc040b340#32⟩,
   ⟨.g, 11#4, 14#5, 0x265e5a51#32⟩,
   ⟨.g, 0#4, 20#5, 0xe9b6c7aa#32⟩,
   ⟨.g, 5#4, 5#5, 0xd62f105d#32⟩,
   ⟨.g, 10#4, 9#5, 0x02441453#32⟩,
   ⟨.g, 15#4, 14#5, 0xd8a1e681#32⟩,
   ⟨.g, 4#4, 20#5, 0xe7d3fbc8#32⟩,
   ⟨.g, 9#4, 5#5, 0x21e1cde6#32⟩,
   ⟨.g, 14#4, 9#5, 0xc33707d6#32⟩,
   ⟨.g, 3#4, 14#5, 0xf4d50d87#32⟩,
   ⟨.g, 8#4, 20#5, 0x455a14ed#32⟩,
   ⟨.g, 13#4, 5#5, 0xa9e3e905#32⟩,
   ⟨.g, 2#4, 9#5, 0xfcefa3f8#32⟩,
   ⟨.g, 7#4, 14#5, 0x676f02d9#32⟩,
   ⟨.g, 12#4, 20#5, 0x8d2a4c8a#32⟩]

/-- Entries 32 to 47 of TABLE, mixing function H (R113, R68). -/
def tablePass2 : List RoundEntry :=
  [⟨.h, 5#4, 4#5, 0xfffa3942#32⟩,
   ⟨.h, 8#4, 11#5, 0x8771f681#32⟩,
   ⟨.h, 11#4, 16#5, 0x6d9d6122#32⟩,
   ⟨.h, 14#4, 23#5, 0xfde5380c#32⟩,
   ⟨.h, 1#4, 4#5, 0xa4beea44#32⟩,
   ⟨.h, 4#4, 11#5, 0x4bdecfa9#32⟩,
   ⟨.h, 7#4, 16#5, 0xf6bb4b60#32⟩,
   ⟨.h, 10#4, 23#5, 0xbebfbc70#32⟩,
   ⟨.h, 13#4, 4#5, 0x289b7ec6#32⟩,
   ⟨.h, 0#4, 11#5, 0xeaa127fa#32⟩,
   ⟨.h, 3#4, 16#5, 0xd4ef3085#32⟩,
   ⟨.h, 6#4, 23#5, 0x04881d05#32⟩,
   ⟨.h, 9#4, 4#5, 0xd9d4d039#32⟩,
   ⟨.h, 12#4, 11#5, 0xe6db99e5#32⟩,
   ⟨.h, 15#4, 16#5, 0x1fa27cf8#32⟩,
   ⟨.h, 2#4, 23#5, 0xc4ac5665#32⟩]

/-- Entries 48 to 63 of TABLE, mixing function I (R113, R68). -/
def tablePass3 : List RoundEntry :=
  [⟨.i, 0#4, 6#5, 0xf4292244#32⟩,
   ⟨.i, 7#4, 10#5, 0x432aff97#32⟩,
   ⟨.i, 14#4, 15#5, 0xab9423a7#32⟩,
   ⟨.i, 5#4, 21#5, 0xfc93a039#32⟩,
   ⟨.i, 12#4, 6#5, 0x655b59c3#32⟩,
   ⟨.i, 3#4, 10#5, 0x8f0ccc92#32⟩,
   ⟨.i, 10#4, 15#5, 0xffeff47d#32⟩,
   ⟨.i, 1#4, 21#5, 0x85845dd1#32⟩,
   ⟨.i, 8#4, 6#5, 0x6fa87e4f#32⟩,
   ⟨.i, 15#4, 10#5, 0xfe2ce6e0#32⟩,
   ⟨.i, 6#4, 15#5, 0xa3014314#32⟩,
   ⟨.i, 13#4, 21#5, 0x4e0811a1#32⟩,
   ⟨.i, 4#4, 6#5, 0xf7537e82#32⟩,
   ⟨.i, 11#4, 10#5, 0xbd3af235#32⟩,
   ⟨.i, 2#4, 15#5, 0x2ad7d2bb#32⟩,
   ⟨.i, 9#4, 21#5, 0xeb86d391#32⟩]

/-- TABLE (R113), in the order of the round index. -/
def roundTable : List RoundEntry := tablePass0 ++ tablePass1 ++ tablePass2 ++ tablePass3

/-- TABLE has sixty-four entries. -/
theorem roundTable_length : roundTable.length = 64 := rfl

/-- TABLE[i] (R113). -/
def tableEntry (i : Index) : RoundEntry :=
  roundTable[i.toNat]'(by rw [roundTable_length]; exact i.isLt)

end Sys2Proof.Machine
end

