-- ==== Sys2Proof/Machine/Transform.lean ====
section
/-! DEFINITION. Transform (spec 41_transform): the message words of a block, one generic step, the sixty-four steps in
order, the feed-forward, and the whole as a pure function of four accumulators and one block. -/

namespace Sys2Proof.Machine

/-- M[k], the k-th little-endian word of a block (R41, R106). -/
def blockWord (blk : Block) (k : BitVec 4) : Word :=
  unle32 (blk[4 * k.toNat]'(by have := k.isLt; omega)) (blk[4 * k.toNat + 1]'(by have := k.isLt; omega))
    (blk[4 * k.toNat + 2]'(by have := k.isLt; omega)) (blk[4 * k.toNat + 3]'(by have := k.isLt; omega))

/-- The document's a' for one step (R108): every sum modulo 2^32. -/
def stepValue (e : RoundEntry) (blk : Block) (q : Quad) : Word :=
  add32 q.b (rotl32 (sum4 q.a (mix e.sel q.b q.c q.d) (blockWord blk e.k) e.t) e.s)

/-- The generic step (R108): (a, b, c, d) <- (d, n, b, c), all right-hand sides read first. -/
def roundStep (e : RoundEntry) (blk : Block) (q : Quad) : Quad :=
  ⟨q.d, stepValue e blk q, q.b, q.c⟩

/-- The steps of a list of entries, in order, each on the registers the one before left (R115). -/
def runRounds (es : List RoundEntry) (blk : Block) (q : Quad) : Quad :=
  es.foldl (fun w e => roundStep e blk w) q

/-- The feed-forward (R116): each accumulator plus the working register of its name. -/
def feedForward (acc work : Quad) : Quad :=
  ⟨add32 acc.a work.a, add32 acc.b work.b, add32 acc.c work.c, add32 acc.d work.d⟩

/-- Transform (R117). -/
def transform (acc : Quad) (blk : Block) : Quad := feedForward acc (runRounds roundTable blk acc)

end Sys2Proof.Machine
end

