-- ==== Sys2Proof/Machine/Ops.lean ====
section
/-! DEFINITION. The named operations over BUF and the registers: the canonical memory, one update per field of
State, the one-byte append that DATA and FINAL share, the initial condition, the delivery of a digest and the reset
input. TAKING AN EXCEPTION: there is no operation for it, because the spec describes none and excludes it (R171, R176,
R177, R179, R180: nothing is raised, no trap entry, no return); the reset input, the only thing that can cut a command
short (R178), is `State.resetInput`. -/

namespace Sys2Proof.Machine

/-! ### BUF as a canonical memory -/

/-- The byte a cell holds; an unlisted cell reads as `Config.unlistedByte`. -/
def Memory.read : Memory → Nat → Byte
  | [], _ => Config.unlistedByte
  | (a', v) :: rest, a => if a = a' then v else Memory.read rest a

/-- The memory with one offset listed no more. -/
def Memory.erase (m : Memory) (a : Nat) : Memory := m.filter fun c => decide (c.1 ≠ a)

/-- The memory with one more cell listed, before the first listed offset above it. -/
def Memory.insertCell : Memory → Nat → Byte → Memory
  | [], a, v => [(a, v)]
  | (a', v') :: rest, a, v =>
    if a < a' then (a, v) :: (a', v') :: rest else (a', v') :: Memory.insertCell rest a v

/-- The memory with the byte at one offset replaced, in canonical form: a byte equal to what an unlisted cell reads as
is not listed. -/
def Memory.write (m : Memory) (a : Nat) (v : Byte) : Memory :=
  if v = Config.unlistedByte then m.erase a else (m.erase a).insertCell a v

/-- The canonical form from a lowest admissible offset up: offsets strictly rising, all below 64 (R40), no entry
equal to what an unlisted cell reads as. -/
def Memory.wfFrom : Nat → Memory → Bool
  | _, [] => true
  | lo, (a, v) :: rest =>
    decide (lo ≤ a) && decide (a < Config.blockBytes) && decide (v ≠ Config.unlistedByte) && Memory.wfFrom (a + 1) rest

/-- The canonical form of BUF. -/
def Memory.wf (m : Memory) : Bool := Memory.wfFrom 0 m

/-- The block Transform is given: BUF[0], BUF[1], ..., BUF[63] in that order (R41, R106). -/
def Memory.block (m : Memory) : Block := ⟨((List.range 64).map m.read).toArray, by simp⟩

/-- MemRead(addr, 4) of the spec (R13, R43): four cells from an offset, little-endian. -/
def Memory.readWord (m : Memory) (addr : Nat) : Word :=
  unle32 (m.read addr) (m.read (addr + 1)) (m.read (addr + 2)) (m.read (addr + 3))

/-- The bytes written one after another from an offset up. -/
def Memory.writeBytes (m : Memory) (a : Nat) : List Byte → Memory
  | [] => m
  | x :: xs => Memory.writeBytes (m.write a x) (a + 1) xs

/-! ### One update per field -/

/-- (A, B, C, D) <- q. -/
def State.setAcc (s : State) (q : Quad) : State := { s with acc := q }

/-- COUNT <- c. -/
def State.setCount (s : State) (c : Count) : State := { s with count := c }

/-- PLEN <- p. -/
def State.setPlen (s : State) (p : Index) : State := { s with plen := p }

/-- BUF <- m. -/
def State.setBuf (s : State) (m : Memory) : State := { s with buf := m }

/-- DIGEST <- d. -/
def State.setDigest (s : State) (d : Digest) : State := { s with digest := d }

/-- The Transform in progress <- r. -/
def State.setRunning (s : State) (r : Option Running) : State := { s with running := r }

/-- The FINAL in progress <- f. -/
def State.setFinishing (s : State) (f : Option Finishing) : State := { s with finishing := f }

/-- What the host will present <- p. -/
def State.setPort (s : State) (p : List Input) : State := { s with port := p }

/-- The number of resets that have drawn free values <- n. -/
def State.setDraws (s : State) (n : Nat) : State := { s with draws := n }

/-! ### The operations the commands are made of -/

/-- MemWrite(PLEN, 1, x): BUF[PLEN] <- x (R42). -/
def State.writePending (s : State) (x : Byte) : State := s.setBuf (s.buf.write s.plen.toNat x)

/-- (A, B, C, D) <- Transform((A, B, C, D), BUF[0..63]) (R117). -/
def State.transformBlock (s : State) : State := s.setAcc (transform s.acc s.buf.block)

/-- What follows the write of a pending byte (R128, R145): the block is complete when the byte went to offset 63. -/
def State.advancePending (s : State) : State :=
  if s.plen = 63#6 then s.transformBlock.setPlen 0#6 else s.setPlen (s.plen + 1#6)

/-- APPEND(x) (R145), shared by DATA and by FINAL's padding engine. -/
def State.append (s : State) (x : Byte) : State := (s.writePending x).advancePending

/-- APPEND of each byte of a sequence, in order. -/
def State.appendAll (s : State) (xs : List Byte) : State := xs.foldl State.append s

/-- The initial condition INITIAL (R31, R126): A, B, C, D, COUNT and PLEN; BUF, DIGEST and DVALID untouched. -/
def State.initial (s : State) : State := ((s.setAcc Config.initAcc).setCount 0#64).setPlen 0#6

/-- Delivery (R149): DIGEST <- the sixteen bytes, DVALID <- 1. The response (DG, HX) is what DIGEST and its HEX view
show from here on (R66). -/
def State.deliver (s : State) (dg : List Byte) : State := (s.setDigest (packDigest dg)).raiseDvalid

/-- Steps 5 to 7 of FINAL (R147 to R150): serialise, deliver, reset to the initial condition. -/
def State.finishDigest (s : State) : State := (s.deliver (serialise s.acc)).initial

/-- The 64 unspecified bytes BUF holds after reset number n of a run (R32, R190): free values. -/
def freeBuf (n : Nat) : Memory :=
  Memory.writeBytes [] 0 ((List.range Config.blockBytes).map (Config.freeBufByte n))

/-- The reset input (R178, R190): the initial condition, DVALID <- 0, whatever was in progress abandoned, BUF and
DIGEST free values. The host's remaining inputs stay. -/
def State.resetInput (s : State) : State :=
  (((((s.initial.clearDvalid).setRunning none).setFinishing none).setBuf (freeBuf s.draws)).setDigest
    (Config.freeDigest s.draws)).setDraws (s.draws + 1)

/-- What a round micro-operation does to the machine (R108): the generic step on the working registers of the
Transform in progress, the message words read from BUF. Between Transforms no working register is live (R33), so there
is nothing to change. -/
def State.roundOp (s : State) (e : RoundEntry) : State :=
  s.setRunning (s.running.map fun r => { r with work := roundStep e s.buf.block r.work })

end Sys2Proof.Machine
end

