-- ==== Sys2Proof/Machine/Beats.lean ====
section
/-! DEFINITION. The four commands, format BEAT (spec 42_update R126 to R128, 43_finalize R151). Each is one atomic
step (R6), total in every state (R171), and answers a next state. -/

namespace Sys2Proof.Machine

/-- IDLE (R127): every piece of state keeps its value; the data field is ignored (R64). -/
def execIdle (_ignored : Byte) (s : State) : Host.Outcome State Fault Refusal := .next s

/-- DATA b (R128): COUNT <- INC64(COUNT) and the append of one byte, with one Transform if the block completes. -/
def execData (b : Byte) (s : State) : Host.Outcome State Fault Refusal :=
  .next ((s.setCount (inc64 s.count)).append b)

/-- FINAL (R151): padding, length field, serialisation, delivery, auto-reset. LEN and p are read before anything is
appended (R141, R142); the appends do not touch COUNT (R145); the data field is ignored (R64). -/
def execFinal (_ignored : Byte) (s : State) : Host.Outcome State Fault Refusal :=
  .next (s.appendAll (finalBytes s.count (padLength s.plen))).finishDigest

/-- INIT (R126): the initial condition, whatever the state was; BUF, DIGEST and DVALID untouched; the data field is
ignored (R64). -/
def execInit (_ignored : Byte) (s : State) : Host.Outcome State Fault Refusal := .next s.initial

end Sys2Proof.Machine
end

