-- ==== Sys2Proof/Machine/Rounds.lean ====
section
/-! DEFINITION. The sixty-four micro-operations of Transform, format ROUND, written out with their literals as the
unrolled listings of R109 to R112 give them (the looped form over TABLE is `runRounds roundTable`; R115 says the two are
the same function). Each is the generic step R108 on the working registers of the Transform in progress. -/

namespace Sys2Proof.Machine

/-! Pass 0, mixing function F (R109). -/

/-- STEP00 (R109): F, M[0], 0xd76aa478, rotation 7. -/
def execStep00 (s : State) : Host.Outcome State Fault Refusal := .next (s.roundOp ⟨.f, 0#4, 7#5, 0xd76aa478#32⟩)

/-- STEP01 (R109): F, M[1], 0xe8c7b756, rotation 12. -/
def execStep01 (s : State) : Host.Outcome State Fault Refusal := .next (s.roundOp ⟨.f, 1#4, 12#5, 0xe8c7b756#32⟩)

/-- STEP02 (R109): F, M[2], 0x242070db, rotation 17. -/
def execStep02 (s : State) : Host.Outcome State Fault Refusal := .next (s.roundOp ⟨.f, 2#4, 17#5, 0x242070db#32⟩)

/-- STEP03 (R109): F, M[3], 0xc1bdceee, rotation 22. -/
def execStep03 (s : State) : Host.Outcome State Fault Refusal := .next (s.roundOp ⟨.f, 3#4, 22#5, 0xc1bdceee#32⟩)

/-- STEP04 (R109): F, M[4], 0xf57c0faf, rotation 7. -/
def execStep04 (s : State) : Host.Outcome State Fault Refusal := .next (s.roundOp ⟨.f, 4#4, 7#5, 0xf57c0faf#32⟩)

/-- STEP05 (R109): F, M[5], 0x4787c62a, rotation 12. -/
def execStep05 (s : State) : Host.Outcome State Fault Refusal := .next (s.roundOp ⟨.f, 5#4, 12#5, 0x4787c62a#32⟩)

/-- STEP06 (R109): F, M[6], 0xa8304613, rotation 17. -/
def execStep06 (s : State) : Host.Outcome State Fault Refusal := .next (s.roundOp ⟨.f, 6#4, 17#5, 0xa8304613#32⟩)

/-- STEP07 (R109): F, M[7], 0xfd469501, rotation 22. -/
def execStep07 (s : State) : Host.Outcome State Fault Refusal := .next (s.roundOp ⟨.f, 7#4, 22#5, 0xfd469501#32⟩)

/-- STEP08 (R109): F, M[8], 0x698098d8, rotation 7. -/
def execStep08 (s : State) : Host.Outcome State Fault Refusal := .next (s.roundOp ⟨.f, 8#4, 7#5, 0x698098d8#32⟩)

/-- STEP09 (R109): F, M[9], 0x8b44f7af, rotation 12. -/
def execStep09 (s : State) : Host.Outcome State Fault Refusal := .next (s.roundOp ⟨.f, 9#4, 12#5, 0x8b44f7af#32⟩)

/-- STEP10 (R109): F, M[10], 0xffff5bb1, rotation 17. -/
def execStep10 (s : State) : Host.Outcome State Fault Refusal := .next (s.roundOp ⟨.f, 10#4, 17#5, 0xffff5bb1#32⟩)

/-- STEP11 (R109): F, M[11], 0x895cd7be, rotation 22. -/
def execStep11 (s : State) : Host.Outcome State Fault Refusal := .next (s.roundOp ⟨.f, 11#4, 22#5, 0x895cd7be#32⟩)

/-- STEP12 (R109): F, M[12], 0x6b901122, rotation 7. -/
def execStep12 (s : State) : Host.Outcome State Fault Refusal := .next (s.roundOp ⟨.f, 12#4, 7#5, 0x6b901122#32⟩)

/-- STEP13 (R109): F, M[13], 0xfd987193, rotation 12. -/
def execStep13 (s : State) : Host.Outcome State Fault Refusal := .next (s.roundOp ⟨.f, 13#4, 12#5, 0xfd987193#32⟩)

/-- STEP14 (R109): F, M[14], 0xa679438e, rotation 17. -/
def execStep14 (s : State) : Host.Outcome State Fault Refusal := .next (s.roundOp ⟨.f, 14#4, 17#5, 0xa679438e#32⟩)

/-- STEP15 (R109): F, M[15], 0x49b40821, rotation 22. -/
def execStep15 (s : State) : Host.Outcome State Fault Refusal := .next (s.roundOp ⟨.f, 15#4, 22#5, 0x49b40821#32⟩)

/-! Pass 1, mixing function G (R110). -/

/-- STEP16 (R110): G, M[1], 0xf61e2562, rotation 5. -/
def execStep16 (s : State) : Host.Outcome State Fault Refusal := .next (s.roundOp ⟨.g, 1#4, 5#5, 0xf61e2562#32⟩)

/-- STEP17 (R110): G, M[6], 0xc040b340, rotation 9. -/
def execStep17 (s : State) : Host.Outcome State Fault Refusal := .next (s.roundOp ⟨.g, 6#4, 9#5, 0xc040b340#32⟩)

/-- STEP18 (R110): G, M[11], 0x265e5a51, rotation 14. -/
def execStep18 (s : State) : Host.Outcome State Fault Refusal := .next (s.roundOp ⟨.g, 11#4, 14#5, 0x265e5a51#32⟩)

/-- STEP19 (R110): G, M[0], 0xe9b6c7aa, rotation 20. -/
def execStep19 (s : State) : Host.Outcome State Fault Refusal := .next (s.roundOp ⟨.g, 0#4, 20#5, 0xe9b6c7aa#32⟩)

/-- STEP20 (R110): G, M[5], 0xd62f105d, rotation 5. -/
def execStep20 (s : State) : Host.Outcome State Fault Refusal := .next (s.roundOp ⟨.g, 5#4, 5#5, 0xd62f105d#32⟩)

/-- STEP21 (R110): G, M[10], 0x02441453, rotation 9. -/
def execStep21 (s : State) : Host.Outcome State Fault Refusal := .next (s.roundOp ⟨.g, 10#4, 9#5, 0x02441453#32⟩)

/-- STEP22 (R110): G, M[15], 0xd8a1e681, rotation 14. -/
def execStep22 (s : State) : Host.Outcome State Fault Refusal := .next (s.roundOp ⟨.g, 15#4, 14#5, 0xd8a1e681#32⟩)

/-- STEP23 (R110): G, M[4], 0xe7d3fbc8, rotation 20. -/
def execStep23 (s : State) : Host.Outcome State Fault Refusal := .next (s.roundOp ⟨.g, 4#4, 20#5, 0xe7d3fbc8#32⟩)

/-- STEP24 (R110): G, M[9], 0x21e1cde6, rotation 5. -/
def execStep24 (s : State) : Host.Outcome State Fault Refusal := .next (s.roundOp ⟨.g, 9#4, 5#5, 0x21e1cde6#32⟩)

/-- STEP25 (R110): G, M[14], 0xc33707d6, rotation 9. -/
def execStep25 (s : State) : Host.Outcome State Fault Refusal := .next (s.roundOp ⟨.g, 14#4, 9#5, 0xc33707d6#32⟩)

/-- STEP26 (R110): G, M[3], 0xf4d50d87, rotation 14. -/
def execStep26 (s : State) : Host.Outcome State Fault Refusal := .next (s.roundOp ⟨.g, 3#4, 14#5, 0xf4d50d87#32⟩)

/-- STEP27 (R110): G, M[8], 0x455a14ed, rotation 20. -/
def execStep27 (s : State) : Host.Outcome State Fault Refusal := .next (s.roundOp ⟨.g, 8#4, 20#5, 0x455a14ed#32⟩)

/-- STEP28 (R110): G, M[13], 0xa9e3e905, rotation 5. -/
def execStep28 (s : State) : Host.Outcome State Fault Refusal := .next (s.roundOp ⟨.g, 13#4, 5#5, 0xa9e3e905#32⟩)

/-- STEP29 (R110): G, M[2], 0xfcefa3f8, rotation 9. -/
def execStep29 (s : State) : Host.Outcome State Fault Refusal := .next (s.roundOp ⟨.g, 2#4, 9#5, 0xfcefa3f8#32⟩)

/-- STEP30 (R110): G, M[7], 0x676f02d9, rotation 14. -/
def execStep30 (s : State) : Host.Outcome State Fault Refusal := .next (s.roundOp ⟨.g, 7#4, 14#5, 0x676f02d9#32⟩)

/-- STEP31 (R110): G, M[12], 0x8d2a4c8a, rotation 20. -/
def execStep31 (s : State) : Host.Outcome State Fault Refusal := .next (s.roundOp ⟨.g, 12#4, 20#5, 0x8d2a4c8a#32⟩)

/-! Pass 2, mixing function H (R111). -/

/-- STEP32 (R111): H, M[5], 0xfffa3942, rotation 4. -/
def execStep32 (s : State) : Host.Outcome State Fault Refusal := .next (s.roundOp ⟨.h, 5#4, 4#5, 0xfffa3942#32⟩)

/-- STEP33 (R111): H, M[8], 0x8771f681, rotation 11. -/
def execStep33 (s : State) : Host.Outcome State Fault Refusal := .next (s.roundOp ⟨.h, 8#4, 11#5, 0x8771f681#32⟩)

/-- STEP34 (R111): H, M[11], 0x6d9d6122, rotation 16. -/
def execStep34 (s : State) : Host.Outcome State Fault Refusal := .next (s.roundOp ⟨.h, 11#4, 16#5, 0x6d9d6122#32⟩)

/-- STEP35 (R111): H, M[14], 0xfde5380c, rotation 23. -/
def execStep35 (s : State) : Host.Outcome State Fault Refusal := .next (s.roundOp ⟨.h, 14#4, 23#5, 0xfde5380c#32⟩)

/-- STEP36 (R111): H, M[1], 0xa4beea44, rotation 4. -/
def execStep36 (s : State) : Host.Outcome State Fault Refusal := .next (s.roundOp ⟨.h, 1#4, 4#5, 0xa4beea44#32⟩)

/-- STEP37 (R111): H, M[4], 0x4bdecfa9, rotation 11. -/
def execStep37 (s : State) : Host.Outcome State Fault Refusal := .next (s.roundOp ⟨.h, 4#4, 11#5, 0x4bdecfa9#32⟩)

/-- STEP38 (R111): H, M[7], 0xf6bb4b60, rotation 16. -/
def execStep38 (s : State) : Host.Outcome State Fault Refusal := .next (s.roundOp ⟨.h, 7#4, 16#5, 0xf6bb4b60#32⟩)

/-- STEP39 (R111): H, M[10], 0xbebfbc70, rotation 23. -/
def execStep39 (s : State) : Host.Outcome State Fault Refusal := .next (s.roundOp ⟨.h, 10#4, 23#5, 0xbebfbc70#32⟩)

/-- STEP40 (R111): H, M[13], 0x289b7ec6, rotation 4. -/
def execStep40 (s : State) : Host.Outcome State Fault Refusal := .next (s.roundOp ⟨.h, 13#4, 4#5, 0x289b7ec6#32⟩)

/-- STEP41 (R111): H, M[0], 0xeaa127fa, rotation 11. -/
def execStep41 (s : State) : Host.Outcome State Fault Refusal := .next (s.roundOp ⟨.h, 0#4, 11#5, 0xeaa127fa#32⟩)

/-- STEP42 (R111): H, M[3], 0xd4ef3085, rotation 16. -/
def execStep42 (s : State) : Host.Outcome State Fault Refusal := .next (s.roundOp ⟨.h, 3#4, 16#5, 0xd4ef3085#32⟩)

/-- STEP43 (R111): H, M[6], 0x04881d05, rotation 23. -/
def execStep43 (s : State) : Host.Outcome State Fault Refusal := .next (s.roundOp ⟨.h, 6#4, 23#5, 0x04881d05#32⟩)

/-- STEP44 (R111): H, M[9], 0xd9d4d039, rotation 4. -/
def execStep44 (s : State) : Host.Outcome State Fault Refusal := .next (s.roundOp ⟨.h, 9#4, 4#5, 0xd9d4d039#32⟩)

/-- STEP45 (R111): H, M[12], 0xe6db99e5, rotation 11. -/
def execStep45 (s : State) : Host.Outcome State Fault Refusal := .next (s.roundOp ⟨.h, 12#4, 11#5, 0xe6db99e5#32⟩)

/-- STEP46 (R111): H, M[15], 0x1fa27cf8, rotation 16. -/
def execStep46 (s : State) : Host.Outcome State Fault Refusal := .next (s.roundOp ⟨.h, 15#4, 16#5, 0x1fa27cf8#32⟩)

/-- STEP47 (R111): H, M[2], 0xc4ac5665, rotation 23. -/
def execStep47 (s : State) : Host.Outcome State Fault Refusal := .next (s.roundOp ⟨.h, 2#4, 23#5, 0xc4ac5665#32⟩)

/-! Pass 3, mixing function I (R112). -/

/-- STEP48 (R112): I, M[0], 0xf4292244, rotation 6. -/
def execStep48 (s : State) : Host.Outcome State Fault Refusal := .next (s.roundOp ⟨.i, 0#4, 6#5, 0xf4292244#32⟩)

/-- STEP49 (R112): I, M[7], 0x432aff97, rotation 10. -/
def execStep49 (s : State) : Host.Outcome State Fault Refusal := .next (s.roundOp ⟨.i, 7#4, 10#5, 0x432aff97#32⟩)

/-- STEP50 (R112): I, M[14], 0xab9423a7, rotation 15. -/
def execStep50 (s : State) : Host.Outcome State Fault Refusal := .next (s.roundOp ⟨.i, 14#4, 15#5, 0xab9423a7#32⟩)

/-- STEP51 (R112): I, M[5], 0xfc93a039, rotation 21. -/
def execStep51 (s : State) : Host.Outcome State Fault Refusal := .next (s.roundOp ⟨.i, 5#4, 21#5, 0xfc93a039#32⟩)

/-- STEP52 (R112): I, M[12], 0x655b59c3, rotation 6. -/
def execStep52 (s : State) : Host.Outcome State Fault Refusal := .next (s.roundOp ⟨.i, 12#4, 6#5, 0x655b59c3#32⟩)

/-- STEP53 (R112): I, M[3], 0x8f0ccc92, rotation 10. -/
def execStep53 (s : State) : Host.Outcome State Fault Refusal := .next (s.roundOp ⟨.i, 3#4, 10#5, 0x8f0ccc92#32⟩)

/-- STEP54 (R112): I, M[10], 0xffeff47d, rotation 15. -/
def execStep54 (s : State) : Host.Outcome State Fault Refusal := .next (s.roundOp ⟨.i, 10#4, 15#5, 0xffeff47d#32⟩)

/-- STEP55 (R112): I, M[1], 0x85845dd1, rotation 21. -/
def execStep55 (s : State) : Host.Outcome State Fault Refusal := .next (s.roundOp ⟨.i, 1#4, 21#5, 0x85845dd1#32⟩)

/-- STEP56 (R112): I, M[8], 0x6fa87e4f, rotation 6. -/
def execStep56 (s : State) : Host.Outcome State Fault Refusal := .next (s.roundOp ⟨.i, 8#4, 6#5, 0x6fa87e4f#32⟩)

/-- STEP57 (R112): I, M[15], 0xfe2ce6e0, rotation 10. -/
def execStep57 (s : State) : Host.Outcome State Fault Refusal := .next (s.roundOp ⟨.i, 15#4, 10#5, 0xfe2ce6e0#32⟩)

/-- STEP58 (R112): I, M[6], 0xa3014314, rotation 15. -/
def execStep58 (s : State) : Host.Outcome State Fault Refusal := .next (s.roundOp ⟨.i, 6#4, 15#5, 0xa3014314#32⟩)

/-- STEP59 (R112): I, M[13], 0x4e0811a1, rotation 21. -/
def execStep59 (s : State) : Host.Outcome State Fault Refusal := .next (s.roundOp ⟨.i, 13#4, 21#5, 0x4e0811a1#32⟩)

/-- STEP60 (R112): I, M[4], 0xf7537e82, rotation 6. -/
def execStep60 (s : State) : Host.Outcome State Fault Refusal := .next (s.roundOp ⟨.i, 4#4, 6#5, 0xf7537e82#32⟩)

/-- STEP61 (R112): I, M[11], 0xbd3af235, rotation 10. -/
def execStep61 (s : State) : Host.Outcome State Fault Refusal := .next (s.roundOp ⟨.i, 11#4, 10#5, 0xbd3af235#32⟩)

/-- STEP62 (R112): I, M[2], 0x2ad7d2bb, rotation 15. -/
def execStep62 (s : State) : Host.Outcome State Fault Refusal := .next (s.roundOp ⟨.i, 2#4, 15#5, 0x2ad7d2bb#32⟩)

/-- STEP63 (R112): I, M[9], 0xeb86d391, rotation 21. -/
def execStep63 (s : State) : Host.Outcome State Fault Refusal := .next (s.roundOp ⟨.i, 9#4, 21#5, 0xeb86d391#32⟩)

end Sys2Proof.Machine
end

