-- ==== Sys2Proof/WellFormed.lean ====
section
/-! DEFINITION. The checks on instruction words and round-table entries. Every value of Instr is well formed by its
type: the data field is exactly 8 bits and the micro-operations carry nothing (R62, R65, R67). What can be ill
formed is a number offered as an instruction word, and an entry offered for a place in the round table. -/

namespace Sys2Proof

/-- The number fits the format: a beat is below 2^10 (R62), a round index below 2^6 (R67). -/
def RawWord.wellFormed (r : RawWord) : Bool := decide (r.bits < 2 ^ r.format.width)

/-- The mixing function of step `i` is that of its pass, `sel = i div 16`, in the order F, G, H, I (R68). -/
def RoundEntry.selOk (i : Nat) (e : RoundEntry) : Bool :=
  decide (e.sel = match i / 16 with | 0 => MixSel.f | 1 => .g | 2 => .h | _ => .i)

/-- The word index of step `i` follows the formula of its pass (R114 b). -/
def RoundEntry.kOk (i : Nat) (e : RoundEntry) : Bool :=
  decide (e.k.toNat = match i / 16 with
    | 0 => i
    | 1 => (5 * i + 1) % 16
    | 2 => (3 * i + 5) % 16
    | _ => 7 * i % 16)

/-- The rotation amount of step `i` is the one its pass gives to `i mod 4` (R114 c). -/
def RoundEntry.sOk (i : Nat) (e : RoundEntry) : Bool :=
  decide (e.s.toNat = match i / 16, i % 4 with
    | 0, 0 => 7 | 0, 1 => 12 | 0, 2 => 17 | 0, _ => 22
    | 1, 0 => 5 | 1, 1 => 9 | 1, 2 => 14 | 1, _ => 20
    | 2, 0 => 4 | 2, 1 => 11 | 2, 2 => 16 | 2, _ => 23
    | _, 0 => 6 | _, 1 => 10 | _, 2 => 15 | _, _ => 21)

/-- The entry may stand at place `i` of the round table (R68, R114): all its checks hold and `i` is below 64. -/
def RoundEntry.wellFormed (i : Nat) (e : RoundEntry) : Bool :=
  decide (i < 64) && e.selOk i && e.kOk i && e.sOk i

end Sys2Proof
end

