-- ==== Sys2Proof/Decode.lean ====
section
/-! DEFINITION. The decoder (R65, R68, R76: total on every beat and on every round index; a number that is no word of
its format is rejected by name), and after it the encoder, written from the same tables (R64, R73, R75). -/

namespace Sys2Proof

/-- Why a number offered as an instruction word is no instruction. -/
inductive DecodeError where
  /-- A number of 2^10 or more offered as a beat: the command port has ten lines (R61, R62). -/
  | widerThanBeat
  /-- A number of 2^6 or more offered as a round index (R67). -/
  | widerThanRoundIndex
  /-- A length that belongs to neither format of spec/opcode_table.json. -/
  | noSuchFormat
  deriving DecidableEq, Repr

/-- The command field of a beat, bits 9:8 (R62). -/
def beatCmd (w : Beat) : BitVec 2 := w.extractLsb' 8 2

/-- The data field of a beat, bits 7:0 (R62). -/
def beatData (w : Beat) : Byte := w.extractLsb' 0 8

/-- Decoding a beat (R63, R76): the command field alone selects the command, so every beat has one (R65). -/
def decodeBeat (w : Beat) : Instr :=
  if beatCmd w = 0b00#2 then .idle (beatData w)
  else if beatCmd w = 0b01#2 then .data (beatData w)
  else if beatCmd w = 0b10#2 then .final (beatData w)
  else .init (beatData w)

/-- The micro-operations in the order of the round index (R75: entry i is `match i, mask 0x3f`). -/
def roundInstrs : List Instr :=
  [.step00, .step01, .step02, .step03, .step04, .step05, .step06, .step07,
       .step08, .step09, .step10, .step11, .step12, .step13, .step14, .step15]
    ++ [.step16, .step17, .step18, .step19, .step20, .step21, .step22, .step23,
       .step24, .step25, .step26, .step27, .step28, .step29, .step30, .step31]
    ++ [.step32, .step33, .step34, .step35, .step36, .step37, .step38, .step39,
       .step40, .step41, .step42, .step43, .step44, .step45, .step46, .step47]
    ++ [.step48, .step49, .step50, .step51, .step52, .step53, .step54, .step55,
       .step56, .step57, .step58, .step59, .step60, .step61, .step62, .step63]

/-- There are sixty-four of them, one for every value of the index. -/
theorem roundInstrs_length : roundInstrs.length = 64 := rfl

/-- Decoding a round index (R67, R68): entry i, all sixty-four values assigned. -/
def decodeRound (i : Index) : Instr :=
  roundInstrs[i.toNat]'(by rw [roundInstrs_length]; exact i.isLt)

/-- Decoding either form: total (R65). -/
def decode : Encoded → Instr
  | .beat w => decodeBeat w
  | .round i => decodeRound i

/-- Reading a number as a word of a format; a number that does not fit is rejected by name. -/
def readRaw (r : RawWord) : Except DecodeError Encoded :=
  match r.wellFormed, r.format with
  | true, .beat => .ok (.beat (BitVec.ofNat 10 r.bits))
  | true, .round => .ok (.round (BitVec.ofNat 6 r.bits))
  | false, .beat => .error .widerThanBeat
  | false, .round => .error .widerThanRoundIndex

/-- The format that spec/opcode_table.json's rows of `nbits` bits belong to, counted in whole bytes or exactly:
one byte (or 6 bits) is a round index, two bytes (or 10 bits) a beat. -/
def formatOfBits (nbits : Nat) : Option Format :=
  if 6 ≤ nbits ∧ nbits ≤ 8 then some .round
  else if 10 ≤ nbits ∧ nbits ≤ 16 then some .beat
  else none

/-- The encoded word that the number `w` of a table row of `nbits` bits stands for. -/
def encodedOfTable (nbits w : Nat) : Except DecodeError Encoded :=
  match formatOfBits nbits with
  | some f => readRaw ⟨f, w⟩
  | none => .error .noSuchFormat

/-- The instruction the decoder reads from a word numbered as spec/opcode_table.json numbers it; none where the
decoder refuses it by name. -/
def decodeTableWord (nbits w : Nat) : Option Instr :=
  match encodedOfTable nbits w with
  | .ok e => some (decode e)
  | .error _ => none

/-- The beat with the given command and data fields, `{cmd, data}` (R62). -/
def mkBeat (cmd : BitVec 2) (data : Byte) : Beat := cmd ++ data

/-- The encoder (R63, R75). -/
def encode : Instr → Encoded
  | .idle d => .beat (mkBeat 0b00#2 d)
  | .data b => .beat (mkBeat 0b01#2 b)
  | .final d => .beat (mkBeat 0b10#2 d)
  | .init d => .beat (mkBeat 0b11#2 d)
  | .step00 => .round 0#6
  | .step01 => .round 1#6
  | .step02 => .round 2#6
  | .step03 => .round 3#6
  | .step04 => .round 4#6
  | .step05 => .round 5#6
  | .step06 => .round 6#6
  | .step07 => .round 7#6
  | .step08 => .round 8#6
  | .step09 => .round 9#6
  | .step10 => .round 10#6
  | .step11 => .round 11#6
  | .step12 => .round 12#6
  | .step13 => .round 13#6
  | .step14 => .round 14#6
  | .step15 => .round 15#6
  | .step16 => .round 16#6
  | .step17 => .round 17#6
  | .step18 => .round 18#6
  | .step19 => .round 19#6
  | .step20 => .round 20#6
  | .step21 => .round 21#6
  | .step22 => .round 22#6
  | .step23 => .round 23#6
  | .step24 => .round 24#6
  | .step25 => .round 25#6
  | .step26 => .round 26#6
  | .step27 => .round 27#6
  | .step28 => .round 28#6
  | .step29 => .round 29#6
  | .step30 => .round 30#6
  | .step31 => .round 31#6
  | .step32 => .round 32#6
  | .step33 => .round 33#6
  | .step34 => .round 34#6
  | .step35 => .round 35#6
  | .step36 => .round 36#6
  | .step37 => .round 37#6
  | .step38 => .round 38#6
  | .step39 => .round 39#6
  | .step40 => .round 40#6
  | .step41 => .round 41#6
  | .step42 => .round 42#6
  | .step43 => .round 43#6
  | .step44 => .round 44#6
  | .step45 => .round 45#6
  | .step46 => .round 46#6
  | .step47 => .round 47#6
  | .step48 => .round 48#6
  | .step49 => .round 49#6
  | .step50 => .round 50#6
  | .step51 => .round 51#6
  | .step52 => .round 52#6
  | .step53 => .round 53#6
  | .step54 => .round 54#6
  | .step55 => .round 55#6
  | .step56 => .round 56#6
  | .step57 => .round 57#6
  | .step58 => .round 58#6
  | .step59 => .round 59#6
  | .step60 => .round 60#6
  | .step61 => .round 61#6
  | .step62 => .round 62#6
  | .step63 => .round 63#6

/-- The `match` and `mask` columns of spec/opcode_table.json (R75, R76), with the row's format. -/
structure TableRow where
  format : Format
  matchBits : Nat
  maskBits : Nat
  deriving DecidableEq, Repr

/-- The row of spec/opcode_table.json an instruction stands for. -/
def tableRow : Instr → TableRow
  | .idle _ => ⟨.beat, 0x000, 0x300⟩
  | .data _ => ⟨.beat, 0x100, 0x300⟩
  | .final _ => ⟨.beat, 0x200, 0x300⟩
  | .init _ => ⟨.beat, 0x300, 0x300⟩
  | .step00 => ⟨.round, 0x00, 0x3f⟩
  | .step01 => ⟨.round, 0x01, 0x3f⟩
  | .step02 => ⟨.round, 0x02, 0x3f⟩
  | .step03 => ⟨.round, 0x03, 0x3f⟩
  | .step04 => ⟨.round, 0x04, 0x3f⟩
  | .step05 => ⟨.round, 0x05, 0x3f⟩
  | .step06 => ⟨.round, 0x06, 0x3f⟩
  | .step07 => ⟨.round, 0x07, 0x3f⟩
  | .step08 => ⟨.round, 0x08, 0x3f⟩
  | .step09 => ⟨.round, 0x09, 0x3f⟩
  | .step10 => ⟨.round, 0x0a, 0x3f⟩
  | .step11 => ⟨.round, 0x0b, 0x3f⟩
  | .step12 => ⟨.round, 0x0c, 0x3f⟩
  | .step13 => ⟨.round, 0x0d, 0x3f⟩
  | .step14 => ⟨.round, 0x0e, 0x3f⟩
  | .step15 => ⟨.round, 0x0f, 0x3f⟩
  | .step16 => ⟨.round, 0x10, 0x3f⟩
  | .step17 => ⟨.round, 0x11, 0x3f⟩
  | .step18 => ⟨.round, 0x12, 0x3f⟩
  | .step19 => ⟨.round, 0x13, 0x3f⟩
  | .step20 => ⟨.round, 0x14, 0x3f⟩
  | .step21 => ⟨.round, 0x15, 0x3f⟩
  | .step22 => ⟨.round, 0x16, 0x3f⟩
  | .step23 => ⟨.round, 0x17, 0x3f⟩
  | .step24 => ⟨.round, 0x18, 0x3f⟩
  | .step25 => ⟨.round, 0x19, 0x3f⟩
  | .step26 => ⟨.round, 0x1a, 0x3f⟩
  | .step27 => ⟨.round, 0x1b, 0x3f⟩
  | .step28 => ⟨.round, 0x1c, 0x3f⟩
  | .step29 => ⟨.round, 0x1d, 0x3f⟩
  | .step30 => ⟨.round, 0x1e, 0x3f⟩
  | .step31 => ⟨.round, 0x1f, 0x3f⟩
  | .step32 => ⟨.round, 0x20, 0x3f⟩
  | .step33 => ⟨.round, 0x21, 0x3f⟩
  | .step34 => ⟨.round, 0x22, 0x3f⟩
  | .step35 => ⟨.round, 0x23, 0x3f⟩
  | .step36 => ⟨.round, 0x24, 0x3f⟩
  | .step37 => ⟨.round, 0x25, 0x3f⟩
  | .step38 => ⟨.round, 0x26, 0x3f⟩
  | .step39 => ⟨.round, 0x27, 0x3f⟩
  | .step40 => ⟨.round, 0x28, 0x3f⟩
  | .step41 => ⟨.round, 0x29, 0x3f⟩
  | .step42 => ⟨.round, 0x2a, 0x3f⟩
  | .step43 => ⟨.round, 0x2b, 0x3f⟩
  | .step44 => ⟨.round, 0x2c, 0x3f⟩
  | .step45 => ⟨.round, 0x2d, 0x3f⟩
  | .step46 => ⟨.round, 0x2e, 0x3f⟩
  | .step47 => ⟨.round, 0x2f, 0x3f⟩
  | .step48 => ⟨.round, 0x30, 0x3f⟩
  | .step49 => ⟨.round, 0x31, 0x3f⟩
  | .step50 => ⟨.round, 0x32, 0x3f⟩
  | .step51 => ⟨.round, 0x33, 0x3f⟩
  | .step52 => ⟨.round, 0x34, 0x3f⟩
  | .step53 => ⟨.round, 0x35, 0x3f⟩
  | .step54 => ⟨.round, 0x36, 0x3f⟩
  | .step55 => ⟨.round, 0x37, 0x3f⟩
  | .step56 => ⟨.round, 0x38, 0x3f⟩
  | .step57 => ⟨.round, 0x39, 0x3f⟩
  | .step58 => ⟨.round, 0x3a, 0x3f⟩
  | .step59 => ⟨.round, 0x3b, 0x3f⟩
  | .step60 => ⟨.round, 0x3c, 0x3f⟩
  | .step61 => ⟨.round, 0x3d, 0x3f⟩
  | .step62 => ⟨.round, 0x3e, 0x3f⟩
  | .step63 => ⟨.round, 0x3f, 0x3f⟩

/-- An encoded word as a number of its format. -/
def Encoded.raw : Encoded → RawWord
  | .beat w => ⟨.beat, w.toNat⟩
  | .round i => ⟨.round, i.toNat⟩

/-- The word satisfies the row, `(w AND mask) = match`, in the row's format (R76). -/
def TableRow.selects (r : TableRow) (w : RawWord) : Bool :=
  decide (w.format = r.format) && decide (w.bits &&& r.maskBits = r.matchBits)

end Sys2Proof
end

