-- ==== Sys2Proof/Machine/Sequencer.lean ====
section
/-! DEFINITION. What the block does next. There is no program counter and no fetch (R28, R191): at a command boundary
the beat on the command port decides (R61), and a command is then performed as one atomic step (R6). Inside a command
the round index selects the next micro-operation (R28, R67), or the padding engine appends its next byte (R33 f); these
states are what R33 lists as hidden, no run enters them from a command boundary, and from them the machine goes on to
the boundary exactly as the pseudocode says. A reset at the input wins over both (R178). -/

namespace Sys2Proof.Machine

/-- What one step of the machine is going to do. -/
inductive Action where
  /-- Take the reset off the input (R178); the state is the one with it taken off. -/
  | reset (s : State)
  /-- Perform the round micro-operation the round index selects. -/
  | round (i : Instr)
  /-- Append the padding engine's next byte, or deliver the digest. -/
  | pad (f : Finishing)
  /-- Perform the command of the beat; the state is the one with the beat taken off the port (R61). -/
  | command (i : Instr) (s : State)
  /-- Nothing is presented: the block waits (R191). -/
  | wait
  deriving DecidableEq, Repr

/-- The choice at or inside a command when no reset is presented. -/
def nextWork (s : State) : Action :=
  match s.running, s.finishing, s.port with
  | some r, _, _ => .round (decodeRound r.index)
  | none, some f, _ => .pad f
  | none, none, .beat w :: rest => .command (decodeBeat w) (s.setPort rest)
  | none, none, .reset _ :: _ => .wait
  | none, none, [] => .wait

/-- The choice of the next action: a reset presented first wins, and the beat presented with it is not performed. -/
def nextAction (s : State) : Action :=
  match s.port with
  | .reset _ :: rest => .reset (s.setPort rest)
  | .beat _ :: _ => nextWork s
  | [] => nextWork s

/-- The start of a Transform (R107): the working registers loaded from A, B, C, D, the round index at 0. -/
def State.beginTransform (s : State) : State := s.setRunning (some ⟨0#6, s.acc⟩)

/-- The end of a Transform (R116): the feed-forward, and PLEN <- 0, which follows it (R128, R145). -/
def State.endTransform (s : State) (work : Quad) : State :=
  ((s.setAcc (feedForward s.acc work)).setPlen 0#6).setRunning none

/-- The round index after one micro-operation (R28, R115): it advances by 1, and the Transform ends after i = 63. -/
def State.advanceRound (s : State) : State :=
  match s.running with
  | some r => if r.index = 63#6 then s.endTransform r.work else s.setRunning (some { r with index := r.index + 1#6 })
  | none => s

/-- What the sequencer adds around a round micro-operation. -/
def afterRound : Host.Outcome State Fault Refusal → Host.Outcome State Fault Refusal
  | .next t => .next t.advanceRound
  | .fault r => .fault r
  | .refused r => .refused r

/-- APPEND with its Transform left to the round micro-operations: the byte is written, and a completed block starts a
Transform (R129: written before Transform reads the buffer). -/
def State.beginAppend (s : State) (x : Byte) : State :=
  if s.plen = 63#6 then (s.writePending x).beginTransform else (s.writePending x).setPlen (s.plen + 1#6)

/-- The start of a DATA beat, finer-grained: COUNT, and the append begun (R128). -/
def State.beginData (s : State) (b : Byte) : State := (s.setCount (inc64 s.count)).beginAppend b

/-- The start of a FINAL beat, finer-grained: LEN and padn are taken (R141, R142), nothing is appended yet. -/
def State.beginFinal (s : State) : State := s.setFinishing (some ⟨s.count, padLength s.plen, 0⟩)

/-- One step of the padding engine (R143 to R151): the next byte, or, when all are appended, delivery and auto-reset. -/
def State.padStep (s : State) (f : Finishing) : State :=
  match (finalBytes f.len f.padn)[f.pos]? with
  | some x => (s.setFinishing (some { f with pos := f.pos + 1 })).beginAppend x
  | none => s.finishDigest.setFinishing none

/-- The inputs from the first one that is no reset on. -/
def dropResets : List Input → List Input
  | [] => []
  | .beat w :: rest => .beat w :: rest
  | .reset _ :: rest => dropResets rest

/-- The state with an instruction placed where the next step finds it (assumption log 5). A beat is presented on the
command port, ahead of what the host has still to present, at a command boundary; a round index is placed in a
Transform in progress, whose working registers, where none is live, are loaded as R107 loads them. -/
def State.place (s : State) : Encoded → State
  | .beat w => ((s.setRunning none).setFinishing none).setPort (.beat w :: s.port)
  | .round i =>
    (s.setRunning (some ⟨i, (s.running.map Running.work).getD s.acc⟩)).setPort (dropResets s.port)

end Sys2Proof.Machine
end

