-- ==== Sys2Proof/Machine/Step.lean ====
section
/-! DEFINITION. One step of the machine: at a command boundary one command, performed whole (R6). -/

namespace Sys2Proof.Machine

/-- One step. There is a next state in every case: exec never faults and never refuses (R176). -/
def step (s : State) : Host.Outcome State Fault Refusal :=
  match nextAction s with
  | .reset t => .next t.resetInput
  | .round i => afterRound (exec i s)
  | .pad f => .next (s.padStep f)
  | .command i t => exec i t
  | .wait => .next s

/-- The state with the word `w` of a table row of `nbits` bits stored where the next step fetches; a number that is
no instruction word changes nothing. -/
def State.withFetchWord (s : State) (nbits w : Nat) : State :=
  match encodedOfTable nbits w with
  | .ok e => s.place e
  | .error _ => s

end Sys2Proof.Machine
end

