-- ==== Sys2Proof/Machine/Message.lean ====
section
/-! DEFINITION. Whole messages: the pseudo-operations NOP, UPDATE and CALC (R74, R130, R133), a sequence of commands
performed in order, the beats it is presented as, and the closed form of what a message computes (R152, with the
block-wise form of UPDATE, R132). -/

namespace Sys2Proof.Machine

/-- UPDATE s (R130): one DATA per byte, in order; no beat at all for the empty sequence (R133). -/
def update (bytes : List Byte) : List Instr := bytes.map .data

/-- NOP, another name for IDLE (R74 c), with the data field driven as R64 says a host should. -/
def nop : Instr := .idle 0x00#8

/-- CALC s (R74 b): INIT; UPDATE s; FINAL. -/
def calcMessage (bytes : List Byte) : List Instr := .init 0x00#8 :: (update bytes ++ [.final 0x00#8])

/-- Instructions performed one after another, each on the state the one before left (R51). -/
def execAll : List Instr → State → Host.Outcome State Fault Refusal
  | [], s => .next s
  | i :: is, s =>
    match exec i s with
    | .next t => execAll is t
    | .fault r => .fault r
    | .refused r => .refused r

/-- The input a command is presented as; a round micro-operation is never presented by the host (R67). -/
def inputOf (i : Instr) : Option Input :=
  match encode i with
  | .beat w => some (.beat w)
  | .round _ => none

/-- The inputs a sequence of commands is presented as (R73). -/
def present (is : List Instr) : List Input := is.filterMap inputOf

/-- z, the number of zero bytes after the 0x80 for a message of n bytes: (55 - n) mod 64 (R152). -/
def zeroCount (n : Nat) : Nat := (119 - n % 64) % 64

/-- pad(X) (R152). -/
def padMessage (x : List Byte) : List Byte :=
  x ++ [0x80#8] ++ List.replicate (zeroCount x.length) 0x00#8 ++ le64 (BitVec.ofNat 64 (8 * x.length))

/-- The j-th 64-byte piece of a byte sequence that has one. -/
def blockAt (w : List Byte) (j : Nat) : Block :=
  ⟨((List.range 64).map fun i => w.getD (64 * j + i) 0x00#8).toArray, by simp⟩

/-- The consecutive whole 64-byte blocks of a byte sequence, a short rest left out (R132, R152). -/
def wholeBlocks (w : List Byte) : List Block := (List.range (w.length / 64)).map (blockAt w)

/-- Transform over blocks in stream order (R132, R152). -/
def absorb (acc : Quad) (blocks : List Block) : Quad := blocks.foldl transform acc

/-- DG of a whole message, in closed form (R152). -/
def messageDigest (x : List Byte) : List Byte := serialise (absorb Config.initAcc (wholeBlocks (padMessage x)))

/-- HX of a whole message, in closed form (R148, R152). -/
def messageHex (x : List Byte) : List Byte := renderHex (messageDigest x)

/-- The pending bytes P = BUF[0..PLEN-1], in order of arrival (R26, R132). -/
def State.pending (s : State) : List Byte := (List.range s.plen.toNat).map s.buf.read

end Sys2Proof.Machine
end

