-- ==== Sys2Proof/Machine/Convenience.lean ====
section
/-! DEFINITION. The host's side (spec 44_host_convenience, R160 to R167): the three forms of `calculate` as the
commands a host presents and what it reports. The host is no part of the block (R5 a): nothing here adds state or
behaviour to the machine. Its two errors are abstract tags without codes (R172, 93_implementation_defined U8). -/

namespace Sys2Proof.Machine

/-- The whole error taxonomy (R170): both errors are the host's. -/
inductive HostError where
  /-- StreamReadError (R173). -/
  | streamRead
  /-- FileOpenError (R174). -/
  | fileOpen
  deriving DecidableEq, Repr

/-- What one read of the byte source returns (R162): bytes, a clean end of data, or a fault. -/
inductive ReadResult where
  | bytes (chunk : List Byte)
  | endOfData
  | broke
  deriving DecidableEq, Repr

/-- What a host's computation presents to the block, and its failure if it has one. -/
structure HostRun where
  presented : List Instr
  failure : Option HostError
  deriving DecidableEq, Repr

/-- The bytes a stream delivers before it ends or breaks. -/
def streamBytes : List ReadResult → List Byte
  | .bytes c :: rest => c ++ streamBytes rest
  | .endOfData :: _ => []
  | .broke :: _ => []
  | [] => []

/-- How a stream ends: `broke` is told apart from a clean end (R162). A list that runs out counts as an end. -/
def streamFailure : List ReadResult → Option HostError
  | .bytes _ :: rest => streamFailure rest
  | .endOfData :: _ => none
  | .broke :: _ => some .streamRead
  | [] => none

/-- calculate(byte_buffer) (R161): construct, one update with the whole buffer, finalize; always succeeds. -/
def calculateBytes (x : List Byte) : HostRun := ⟨calcMessage x, none⟩

/-- calculate(byte_stream) (R162): INIT, the bytes of each read, and FINAL only on a clean end of data (R164). -/
def calculateStream (reads : List ReadResult) : HostRun :=
  match streamFailure reads with
  | none => ⟨calcMessage (streamBytes reads), none⟩
  | some e => ⟨.init 0x00#8 :: update (streamBytes reads), some e⟩

/-- A path as the host's file system serves it: what opening it in each mode yields, none where it cannot be opened. -/
structure HostFile where
  binaryMode : Option (List ReadResult)
  textMode : Option (List ReadResult)
  deriving DecidableEq, Repr

/-- calculate(path, binary) (R163): open, then the stream form; if the open fails no beat is presented (R174). The flag
defaults to binary. -/
def calculatePath (f : HostFile) (binary : Bool := true) : HostRun :=
  match if binary then f.binaryMode else f.textMode with
  | some reads => calculateStream reads
  | none => ⟨[], some .fileOpen⟩

/-- What the host reports for a run on a block in state `s`: its failure on its own channel (R165), else the HEX view
after the last command. None would be a block that stopped, which never happens (R176). -/
def HostRun.report (h : HostRun) (s : State) : Option (Except HostError (List Byte)) :=
  match h.failure, execAll h.presented s with
  | some e, _ => some (.error e)
  | none, .next t => some (.ok (hexView t.digest))
  | none, .fault _ => none
  | none, .refused _ => none

end Sys2Proof.Machine
end

