-- ==== Sys2Proof/Safety.lean ====
section
/-! DEFINITION. The terms claims are stated in: command boundaries, the initial condition, the invariant of the
machine, which cells of BUF are live, and when two states can be told apart by what the block does next. -/

namespace Sys2Proof.Machine

/-- A command boundary (R20, R28): neither a Transform nor a FINAL is in progress. -/
abbrev State.AtBoundary (s : State) : Prop := s.running = none ∧ s.finishing = none

/-- The initial condition INITIAL (R31); BUF, DIGEST and DVALID are no part of it. -/
abbrev State.IsInitial (s : State) : Prop := s.acc = Config.initAcc ∧ s.count = 0#64 ∧ s.plen = 0#6

/-- Bytes of the message since the last whole block, as COUNT tells them: (COUNT div 8) mod 64 (R36). -/
def State.messageOffset (s : State) : Nat := s.count.toNat / 8 % 64

/-- Where the machine is in a block, at a command boundary and inside each command: at a boundary
PLEN = (COUNT div 8) mod 64 (R36); a Transform runs only when the byte at offset 63 has just been written; inside FINAL
the padding engine's position accounts for every byte appended (R142, R154). -/
def State.positionOk (s : State) : Bool :=
  match s.finishing, s.running with
  | none, none => decide (s.plen.toNat = s.messageOffset)
  | none, some _ => decide (s.plen = 63#6 ∧ s.messageOffset = 0)
  | some f, none =>
    decide (f.len = s.count ∧ f.padn = padLength (BitVec.ofNat 6 s.messageOffset) ∧ f.pos ≤ f.padn + 8 ∧
      s.plen.toNat = (s.messageOffset + f.pos) % 64)
  | some f, some _ =>
    decide (f.len = s.count ∧ f.padn = padLength (BitVec.ofNat 6 s.messageOffset) ∧ f.pos ≤ f.padn + 8 ∧
      s.plen = 63#6 ∧ (s.messageOffset + f.pos) % 64 = 0)

/-- The invariant of the machine: BUF in canonical form, COUNT[2:0] = 0 (R24), and the position (R27, R36). -/
abbrev State.Inv (s : State) : Prop := s.buf.wf = true ∧ s.count.toNat % 8 = 0 ∧ s.positionOk = true

/-- How many cells of BUF, from offset 0, hold a defined byte: the pending bytes (R26), or the whole block while a
Transform runs on it (R50). -/
def State.liveCells (s : State) : Nat := if s.running.isSome then 64 else s.plen.toNat

/-- Two states that differ at most in stale cells of BUF and in the outputs DIGEST and DVALID, the values
93_implementation_defined V1 and V2 leave unspecified. -/
abbrev SameButUnspecified (s t : State) : Prop :=
  s.acc = t.acc ∧ s.count = t.count ∧ s.plen = t.plen ∧ s.running = t.running ∧ s.finishing = t.finishing ∧
    s.port = t.port ∧ s.draws = t.draws ∧ ∀ a, a < s.liveCells → s.buf.read a = t.buf.read a

/-- The state after a round micro-operation whose mixing function has the value `f`, with the message word `k`, the
rotation `rot` and the constant `t`, written with the plain operators on 32-bit words (R108):
n = b + rotate_left(a + f + M[k] + t, rot), then (a, b, c, d) <- (d, n, b, c); nothing else changes. -/
def State.afterRoundOp (s : State) (r : Running) (f : Word) (k rot : Nat) (t : Word) : State :=
  s.setRunning (some { r with
    work := ⟨r.work.d, r.work.b + (r.work.a + f + s.buf.readWord (4 * k) + t).rotateLeft rot, r.work.b, r.work.c⟩ })

/-- No reset is the next thing at the block's inputs. -/
abbrev State.NoResetNext (s : State) : Prop := ∀ w rest, s.port ≠ .reset w :: rest

/-- Every register, flag, input and hidden field of two states except A, B, C, D, COUNT, PLEN and BUF. -/
abbrev SameOutside (s t : State) : Prop :=
  t.digest = s.digest ∧ t.dvalid = s.dvalid ∧ t.running = s.running ∧ t.finishing = s.finishing ∧
    t.port = s.port ∧ t.draws = s.draws

/-- Every byte of BUF reads alike in two states. -/
abbrev SameBytes (s t : State) : Prop := ∀ a, t.buf.read a = s.buf.read a

/-- `n` steps of the machine. -/
def stepsFrom : Nat → State → Host.Outcome State Fault Refusal
  | 0, s => .next s
  | n + 1, s =>
    match step s with
    | .next t => stepsFrom n t
    | .fault r => .fault r
    | .refused r => .refused r

end Sys2Proof.Machine
end

