-- ==== Sys2Proof/Certificates/Slice0/Obligations.lean ====
section
/-! DEFINITION. The statements put to the provers. Each docstring says what the statement formalises; a statement that
rests on a choice of the model names the log entry. -/

open Sys2Proof Sys2Proof.Machine

/-- Decoding the encoding of any instruction gives that instruction back (30_encoding.md sections 2, 4 and 7, opcode_table.json). -/
def Obligations.DecodeInvertsEncode : Prop :=
  ∀ i : Instr, decode (encode i) = i

/-- Every beat and every round index is the encoding of the instruction it decodes to (30_encoding.md sections 2 and 4, opcode_table.json).
That this holds of a beat that is not canonical too (0x0a5, 0x2ff, 0x3ff), because the instruction keeps the data field which IDLE, FINAL and INIT ignore, is the model's choice (assumption log 7). -/
def Obligations.EncodeInvertsDecode : Prop :=
  ∀ e : Encoded, encode (decode e) = e

/-- A beat selects the command whose match and mask it satisfies, and exactly one row is satisfied (R76). -/
def Obligations.BeatSelectsOneCommandRow : Prop :=
  ∀ w : Beat,
    ((w &&& 0x300#10 = 0x000#10 ∨ w &&& 0x300#10 = 0x100#10 ∨ w &&& 0x300#10 = 0x200#10 ∨ w &&& 0x300#10 = 0x300#10)) ∧
    (w &&& 0x300#10 = 0x000#10 ↔ w.extractLsb' 8 2 = 0b00#2) ∧ (w &&& 0x300#10 = 0x100#10 ↔ w.extractLsb' 8 2 = 0b01#2) ∧
    (w &&& 0x300#10 = 0x200#10 ↔ w.extractLsb' 8 2 = 0b10#2) ∧ (w &&& 0x300#10 = 0x300#10 ↔ w.extractLsb' 8 2 = 0b11#2) ∧
    (w &&& 0x300#10 = 0x000#10 → decode (.beat w) = .idle (w.extractLsb' 0 8)) ∧
    (w &&& 0x300#10 = 0x100#10 → decode (.beat w) = .data (w.extractLsb' 0 8)) ∧
    (w &&& 0x300#10 = 0x200#10 → decode (.beat w) = .final (w.extractLsb' 0 8)) ∧
    (w &&& 0x300#10 = 0x300#10 → decode (.beat w) = .init (w.extractLsb' 0 8))

/-- Words written out from the spec's encodings decode to the instructions they stand for (30_encoding.md sections 2, 4, 6 and 7, opcode_table.json). -/
def Obligations.SpecWordsDecodeAsListed : Prop :=
  decode (.beat 0b0000000000#10) = .idle 0x00#8 ∧ decode (.beat 0b0010100101#10) = .idle 0xa5#8 ∧
    decode (.beat 0b0101100001#10) = .data 0x61#8 ∧ decode (.beat 0b0111111111#10) = .data 0xff#8 ∧
    decode (.beat 0b1000000000#10) = .final 0x00#8 ∧ decode (.beat 0b1011111111#10) = .final 0xff#8 ∧
    decode (.beat 0b1100000000#10) = .init 0x00#8 ∧ decode (.beat 0b1111111111#10) = .init 0xff#8 ∧
    decode (.round 0b000000#6) = .step00 ∧ decode (.round 0b010000#6) = .step16 ∧ decode (.round 0b100000#6) = .step32 ∧
    decode (.round 0b101011#6) = .step43 ∧ decode (.round 0b111111#6) = .step63

/-- A number is read as an instruction word exactly when it fits the format (model's reading of the table's numbering) (30_encoding.md sections 2 and 4).
The byte lengths 16 and 8 are the model's reading of the table (assumption log 5). -/
def Obligations.NumbersThatAreNoWordAreRefused : Prop :=
  ∀ w : Nat,
    (w < 1024 → decodeTableWord 16 w = some (decode (.beat (BitVec.ofNat 10 w)))) ∧
    (1024 ≤ w → decodeTableWord 16 w = none ∧ readRaw ⟨.beat, w⟩ = .error .widerThanBeat) ∧
    (w < 64 → decodeTableWord 8 w = some (decode (.round (BitVec.ofNat 6 w)))) ∧
    (64 ≤ w → decodeTableWord 8 w = none ∧ readRaw ⟨.round, w⟩ = .error .widerThanRoundIndex)

/-- At a command boundary a step performs the command of the beat presented first, and takes that beat off the port (30_encoding.md section 2, 00_scope.md section 2).
The port's list of inputs is the model's own (assumption log 4). -/
def Obligations.StepPerformsThePresentedBeat : Prop :=
  ∀ (s : State) (w : Beat) (rest : List Input), s.AtBoundary → s.port = .beat w :: rest →
    step s = exec (decode (.beat w)) (s.setPort rest)

/-- Inside a Transform a step runs the micro-operation the round index selects, then advances the index or ends the Transform (10_state.md section 4, 41_transform.md sections 3 and 6, 42_update.md section 4, 43_finalize.md section 2).
That a state inside a command can be stepped at all is the model's own (assumption log 6). -/
def Obligations.StepRunsTheRoundOperationOfTheIndex : Prop :=
  ∀ (s : State) (r : Running), s.running = some r → s.NoResetNext →
    step s = afterRound (exec (decode (.round r.index)) s) ∧
    ∃ (t : State) (q : Running), exec (decode (.round r.index)) s = .next t ∧ t.running = some q ∧ q.index = r.index ∧
      (r.index ≠ 63#6 → step s = .next (t.setRunning (some { q with index := r.index + 1#6 }))) ∧
      (r.index = 63#6 → step s = .next (((t.setAcc (feedForward s.acc q.work)).setPlen 0#6).setRunning none))

/-- With no input presented, a state at a command boundary stays as it is (70_reset_and_hazards.md section 1, 30_encoding.md section 2).
That a step without a beat exists is the model's own (assumption log 4). -/
def Obligations.BlockWaitsWhileNothingIsPresented : Prop :=
  ∀ s : State, s.AtBoundary → s.port = [] → step s = .next s

/-- A table word placed with withFetchWord is what the very next step runs (model's own placing) (30_encoding.md sections 2 and 4, opcode_table.json).
How a word is placed is the model's own (assumption log 5). -/
def Obligations.PlacedWordRunsInTheNextStep : Prop :=
  (∀ (s : State) (w : Beat), step (s.withFetchWord 16 w.toNat) =
      exec (decode (.beat w)) ((s.setRunning none).setFinishing none)) ∧
    (∀ (s : State) (i : Index), step (s.withFetchWord 8 i.toNat) =
      afterRound (exec (decode (.round i)) (s.withFetchWord 8 i.toNat)) ∧
      ∃ r, (s.withFetchWord 8 i.toNat).running = some r ∧ r.index = i)

/-- A reset presented first forces the reset values, whatever command is in progress and whatever beat comes with it (60_exceptions.md section 3, 10_state.md section 7, 70_reset_and_hazards.md section 1).
That a reset acts when it comes first in the list of inputs, and that the inputs after it stay, is the model's choice (assumption log 4). -/
def Obligations.ResetInputWinsOverBeatAndCommand : Prop :=
  ∀ (s : State) (w : Option Beat) (rest : List Input), s.port = .reset w :: rest →
    ∃ t, step s = .next t ∧ t.acc = ⟨0x67452301#32, 0xefcdab89#32, 0x98badcfe#32, 0x10325476#32⟩ ∧ t.count = 0#64 ∧
      t.plen = 0#6 ∧ t.dvalid = false ∧ t.running = none ∧ t.finishing = none ∧ t.port = rest

/-- Every instruction answers a next state in every state: no exception, no fault, no refusal (60_exceptions.md section 1, 41_transform.md sections 1 and 4).
That a micro-operation does so also where no Transform is in progress is the model's choice (assumption log 8). -/
def Obligations.EveryInstructionIsDefinedInEveryState : Prop :=
  ∀ (i : Instr) (s : State), ∃ t, exec i s = .next t

/-- The step function has one outcome only, the next state, in every state (60_exceptions.md section 1). -/
def Obligations.StepHasOneOutcome : Prop :=
  ∀ s : State, ∃ t, step s = .next t

/-- IDLE leaves every piece of state as it is, whatever its data field (R127). -/
def Obligations.IdleKeepsEveryPieceOfState : Prop :=
  (∀ (d : Byte) (s : State), exec (.idle d) s = .next s) ∧ encode (.idle 0x00#8) = .beat 0x000#10

/-- INIT sets A, B, C, D, COUNT and PLEN to the initial condition and changes nothing else (R126). -/
def Obligations.InitEstablishesTheInitialCondition : Prop :=
  (∀ (d : Byte) (s : State), ∃ t, exec (.init d) s = .next t ∧
      t.acc = ⟨0x67452301#32, 0xefcdab89#32, 0x98badcfe#32, 0x10325476#32⟩ ∧ t.count = 0#64 ∧ t.plen = 0#6 ∧
      SameBytes s t ∧ SameOutside s t ∧ (s.IsInitial → t = s)) ∧
    encode (.init 0x00#8) = .beat 0x300#10

/-- DATA b writes b at offset PLEN, adds 8 to COUNT, and runs one Transform exactly when PLEN was 63 (R128). -/
def Obligations.DataAppendsOneMessageByte : Prop :=
  (∀ (b : Byte) (s : State), ∃ t, exec (.data b) s = .next t ∧ t.count.toNat = (s.count.toNat + 8) % 2 ^ 64 ∧
      (∀ a, t.buf.read a = if a = s.plen.toNat then b else s.buf.read a) ∧
      (if s.plen.toNat = 63 then t.acc = transform s.acc t.buf.block ∧ t.plen = 0#6
       else t.acc = s.acc ∧ t.plen.toNat = s.plen.toNat + 1) ∧
      SameOutside s t) ∧
    ∀ b : Byte, encode (.data b) = .beat (0x100#10 + b.setWidth 10)

/-- COUNT wraps silently: DATA does to everything else what it would do with any other counter value (42_update.md section 4, 10_state.md section 3). -/
def Obligations.CounterValueNeverInfluencesData : Prop :=
  (∀ (b : Byte) (s : State) (c : Count), ∃ t, exec (.data b) s = .next t ∧
      exec (.data b) (s.setCount c) = .next (t.setCount (BitVec.ofNat 64 (c.toNat + 8)))) ∧
    ∀ (b : Byte) (s : State), s.count = 0xfffffffffffffff8#64 → ∃ t, exec (.data b) s = .next t ∧ t.count = 0#64

/-- APPEND(x), the operation of FINAL's padding engine, is DATA without its COUNT line (R145). -/
def Obligations.AppendIsDataWithoutCount : Prop :=
  ∀ (x : Byte) (s : State),
    (∀ a, (s.append x).buf.read a = if a = s.plen.toNat then x else s.buf.read a) ∧
    (s.plen.toNat = 63 → (s.append x).acc = transform s.acc (s.append x).buf.block ∧ (s.append x).plen = 0#6) ∧
    (s.plen.toNat ≠ 63 → (s.append x).acc = s.acc ∧ (s.append x).plen.toNat = s.plen.toNat + 1) ∧
    (s.append x).count = s.count ∧ SameOutside s (s.append x) ∧
    exec (.data x) s = .next ((s.append x).setCount (s.count + 8#64))

/-- The padding length is 56 - p below 56 and 120 - p from 56 on, always 1 to 64, and leads to 56 modulo 64 (R142). -/
def Obligations.PaddingLengthFormula : Prop :=
  ∀ p : Index, padLength p = (if p.toNat < 56 then 56 - p.toNat else 120 - p.toNat) ∧ 1 ≤ padLength p ∧
    padLength p ≤ 64 ∧ (p.toNat + padLength p) % 64 = 56

/-- FINAL appends 0x80, then padn - 1 zeros, then the eight bytes of the count, least significant first (43_finalize.md section 2). -/
def Obligations.FinalAppendsMarkerZerosAndLength : Prop :=
  ∀ (len : Count) (p : Index), (finalBytes len (padLength p)).length = padLength p + 8 ∧
    (∀ j x, (finalBytes len (padLength p))[j]? = some x →
      (j = 0 → x = 0x80#8) ∧ (1 ≤ j → j < padLength p → x = 0x00#8) ∧
      (padLength p ≤ j → x = len.extractLsb' (8 * (j - padLength p)) 8))

/-- FINAL appends padding and length, delivers the serialised accumulators, and ends in the initial condition (R151, R149, R150). -/
def Obligations.FinalFollowsTheSevenSteps : Prop :=
  (∀ (d : Byte) (s : State), ∃ t, exec (.final d) s = .next t ∧
      let padn := if s.plen.toNat < 56 then 56 - s.plen.toNat else 120 - s.plen.toNat
      let u := s.appendAll ([0x80#8] ++ List.replicate (padn - 1) 0x00#8 ++ le64 s.count)
      let dg := le32 u.acc.a ++ le32 u.acc.b ++ le32 u.acc.c ++ le32 u.acc.d
      digestBytes t.digest = dg ∧ hexView t.digest = dg.flatMap hexByte ∧ t.dvalid = true ∧
      t.acc = ⟨0x67452301#32, 0xefcdab89#32, 0x98badcfe#32, 0x10325476#32⟩ ∧ t.count = 0#64 ∧ t.plen = 0#6 ∧
      u.plen = 0#6 ∧ t.buf = u.buf ∧ t.running = s.running ∧ t.finishing = s.finishing ∧ t.port = s.port ∧
      t.draws = s.draws) ∧
    encode (.final 0x00#8) = .beat 0x200#10

/-- With PLEN at most 55, FINAL's digest is one Transform of the pending bytes, 0x80, zeros and the length (43_finalize.md sections 3 and 4).
That BUF shows that block afterwards, when all its cells are stale, is the model's choice (assumption log 1). -/
def Obligations.FinalBuildsOneBlockBelow56 : Prop :=
  ∀ (d : Byte) (s : State), s.plen.toNat ≤ 55 → ∃ (blk : Block) (t : State), exec (.final d) s = .next t ∧
    (∀ (j : Nat) (h : j < 64), blk[j] = if j < s.plen.toNat then s.buf.read j else if j = s.plen.toNat then 0x80#8
      else if j < 56 then 0x00#8 else s.count.extractLsb' (8 * (j - 56)) 8) ∧
    digestBytes t.digest = serialise (transform s.acc blk) ∧ t.dvalid = true ∧ t.IsInitial ∧
    (∀ (j : Nat) (h : j < 64), t.buf.read j = blk[j]) ∧
    (∀ a, a < s.plen.toNat ∨ 64 ≤ a → t.buf.read a = s.buf.read a) ∧
    t.running = s.running ∧ t.finishing = s.finishing ∧ t.port = s.port ∧ t.draws = s.draws

/-- With PLEN from 56 to 63, FINAL's digest is two Transforms: marker in the first block, length in the second (43_finalize.md sections 3 and 4).
That BUF shows that block afterwards, when all its cells are stale, is the model's choice (assumption log 1). -/
def Obligations.FinalBuildsTwoBlocksFrom56 : Prop :=
  ∀ (d : Byte) (s : State), 56 ≤ s.plen.toNat → ∃ (b1 b2 : Block) (t : State), exec (.final d) s = .next t ∧
    (∀ (j : Nat) (h : j < 64), b1[j] = if j < s.plen.toNat then s.buf.read j else if j = s.plen.toNat then 0x80#8
      else 0x00#8) ∧
    (∀ (j : Nat) (h : j < 64), b2[j] = if j < 56 then 0x00#8 else s.count.extractLsb' (8 * (j - 56)) 8) ∧
    digestBytes t.digest = serialise (transform (transform s.acc b1) b2) ∧ t.dvalid = true ∧ t.IsInitial ∧
    (∀ (j : Nat) (h : j < 64), t.buf.read j = b2[j]) ∧ (∀ a, 64 ≤ a → t.buf.read a = s.buf.read a) ∧
    t.running = s.running ∧ t.finishing = s.finishing ∧ t.port = s.port ∧ t.draws = s.draws

/-- FINAL in the initial condition yields d41d8cd98f00b204e9800998ecf8427e, whatever BUF and the outputs hold (43_finalize.md section 4, 95_test_vectors.md section 1 (S1)). -/
def Obligations.FinalOfNothingIsTheEmptyDigest : Prop :=
  ∀ (d : Byte) (s : State), s.IsInitial → ∃ t, exec (.final d) s = .next t ∧ t.dvalid = true ∧
    (hexView t.digest).map (fun c => Char.ofNat c.toNat) = "d41d8cd98f00b204e9800998ecf8427e".toList

/-- After FINAL at a boundary the block differs from one just reset only in stale cells of BUF and in the outputs (43_finalize.md section 4, 10_state.md section 10). -/
def Obligations.FinalLeavesAFreshBlock : Prop :=
  ∀ (d : Byte) (s : State), s.AtBoundary → ∃ t, exec (.final d) s = .next t ∧ t.dvalid = true ∧
    SameButUnspecified t ((State.reset.setPort s.port).setDraws s.draws)

/-- The digest FINAL delivers does not depend on stale cells of BUF, on the previous DIGEST or on DVALID (43_finalize.md section 3, 20_memory.md section 7). -/
def Obligations.FinalResultDependsOnLiveStateOnly : Prop :=
  ∀ (d e : Byte) (s t : State), SameButUnspecified s t →
    ∃ u v, exec (.final d) s = .next u ∧ exec (.final e) t = .next v ∧ u.digest = v.digest ∧ u.dvalid = true ∧
      v.dvalid = true

/-- Every round micro-operation is the generic step with the table's entry for its index, and changes only a, b, c, d (R108). -/
def Obligations.RoundOperationIsTheGenericStep : Prop :=
  ∀ (i : Index) (s : State) (r : Running), s.running = some r → ∃ n, n = add32 r.work.b (rotl32 (sum4 r.work.a
        (mix (tableEntry i).sel r.work.b r.work.c r.work.d) (s.buf.readWord (4 * (tableEntry i).k.toNat))
        (tableEntry i).t) (tableEntry i).s) ∧
      exec (decode (.round i)) s = .next (s.setRunning (some { r with work := ⟨r.work.d, n, r.work.b, r.work.c⟩ }))

/-- Where no Transform is in progress a round micro-operation changes nothing (the model's choice) (10_state.md section 8, 41_transform.md section 1).
The spec gives such a performance no occasion, since no working register is live there; that it changes nothing is the model's choice (assumption log 8). -/
def Obligations.RoundOperationOutsideATransformDoesNothing : Prop :=
  ∀ (i : Index) (s : State), s.running = none → exec (decode (.round i)) s = .next s

/-- STEP00 to STEP15: the sixteen steps of pass 0 with function F and the spec's own numbers (R109). -/
def Obligations.FirstPassStepsAreAsListed : Prop :=
  ∀ (s : State) (r : Running), s.running = some r →
    let f : Word := (r.work.b &&& r.work.c) ||| (~~~r.work.b &&& r.work.d)
    exec .step00 s = .next (s.afterRoundOp r f 0 7 0xd76aa478#32) ∧
    exec .step01 s = .next (s.afterRoundOp r f 1 12 0xe8c7b756#32) ∧
    exec .step02 s = .next (s.afterRoundOp r f 2 17 0x242070db#32) ∧
    exec .step03 s = .next (s.afterRoundOp r f 3 22 0xc1bdceee#32) ∧
    exec .step04 s = .next (s.afterRoundOp r f 4 7 0xf57c0faf#32) ∧
    exec .step05 s = .next (s.afterRoundOp r f 5 12 0x4787c62a#32) ∧
    exec .step06 s = .next (s.afterRoundOp r f 6 17 0xa8304613#32) ∧
    exec .step07 s = .next (s.afterRoundOp r f 7 22 0xfd469501#32) ∧
    exec .step08 s = .next (s.afterRoundOp r f 8 7 0x698098d8#32) ∧
    exec .step09 s = .next (s.afterRoundOp r f 9 12 0x8b44f7af#32) ∧
    exec .step10 s = .next (s.afterRoundOp r f 10 17 0xffff5bb1#32) ∧
    exec .step11 s = .next (s.afterRoundOp r f 11 22 0x895cd7be#32) ∧
    exec .step12 s = .next (s.afterRoundOp r f 12 7 0x6b901122#32) ∧
    exec .step13 s = .next (s.afterRoundOp r f 13 12 0xfd987193#32) ∧
    exec .step14 s = .next (s.afterRoundOp r f 14 17 0xa679438e#32) ∧
    exec .step15 s = .next (s.afterRoundOp r f 15 22 0x49b40821#32)

/-- STEP16 to STEP31: the sixteen steps of pass 1 with function G and the spec's own numbers (R110). -/
def Obligations.SecondPassStepsAreAsListed : Prop :=
  ∀ (s : State) (r : Running), s.running = some r →
    let f : Word := (r.work.b &&& r.work.d) ||| (r.work.c &&& ~~~r.work.d)
    exec .step16 s = .next (s.afterRoundOp r f 1 5 0xf61e2562#32) ∧
    exec .step17 s = .next (s.afterRoundOp r f 6 9 0xc040b340#32) ∧
    exec .step18 s = .next (s.afterRoundOp r f 11 14 0x265e5a51#32) ∧
    exec .step19 s = .next (s.afterRoundOp r f 0 20 0xe9b6c7aa#32) ∧
    exec .step20 s = .next (s.afterRoundOp r f 5 5 0xd62f105d#32) ∧
    exec .step21 s = .next (s.afterRoundOp r f 10 9 0x02441453#32) ∧
    exec .step22 s = .next (s.afterRoundOp r f 15 14 0xd8a1e681#32) ∧
    exec .step23 s = .next (s.afterRoundOp r f 4 20 0xe7d3fbc8#32) ∧
    exec .step24 s = .next (s.afterRoundOp r f 9 5 0x21e1cde6#32) ∧
    exec .step25 s = .next (s.afterRoundOp r f 14 9 0xc33707d6#32) ∧
    exec .step26 s = .next (s.afterRoundOp r f 3 14 0xf4d50d87#32) ∧
    exec .step27 s = .next (s.afterRoundOp r f 8 20 0x455a14ed#32) ∧
    exec .step28 s = .next (s.afterRoundOp r f 13 5 0xa9e3e905#32) ∧
    exec .step29 s = .next (s.afterRoundOp r f 2 9 0xfcefa3f8#32) ∧
    exec .step30 s = .next (s.afterRoundOp r f 7 14 0x676f02d9#32) ∧
    exec .step31 s = .next (s.afterRoundOp r f 12 20 0x8d2a4c8a#32)

/-- STEP32 to STEP47: the sixteen steps of pass 2 with function H and the spec's own numbers (R111). -/
def Obligations.ThirdPassStepsAreAsListed : Prop :=
  ∀ (s : State) (r : Running), s.running = some r →
    let f : Word := r.work.b ^^^ r.work.c ^^^ r.work.d
    exec .step32 s = .next (s.afterRoundOp r f 5 4 0xfffa3942#32) ∧
    exec .step33 s = .next (s.afterRoundOp r f 8 11 0x8771f681#32) ∧
    exec .step34 s = .next (s.afterRoundOp r f 11 16 0x6d9d6122#32) ∧
    exec .step35 s = .next (s.afterRoundOp r f 14 23 0xfde5380c#32) ∧
    exec .step36 s = .next (s.afterRoundOp r f 1 4 0xa4beea44#32) ∧
    exec .step37 s = .next (s.afterRoundOp r f 4 11 0x4bdecfa9#32) ∧
    exec .step38 s = .next (s.afterRoundOp r f 7 16 0xf6bb4b60#32) ∧
    exec .step39 s = .next (s.afterRoundOp r f 10 23 0xbebfbc70#32) ∧
    exec .step40 s = .next (s.afterRoundOp r f 13 4 0x289b7ec6#32) ∧
    exec .step41 s = .next (s.afterRoundOp r f 0 11 0xeaa127fa#32) ∧
    exec .step42 s = .next (s.afterRoundOp r f 3 16 0xd4ef3085#32) ∧
    exec .step43 s = .next (s.afterRoundOp r f 6 23 0x04881d05#32) ∧
    exec .step44 s = .next (s.afterRoundOp r f 9 4 0xd9d4d039#32) ∧
    exec .step45 s = .next (s.afterRoundOp r f 12 11 0xe6db99e5#32) ∧
    exec .step46 s = .next (s.afterRoundOp r f 15 16 0x1fa27cf8#32) ∧
    exec .step47 s = .next (s.afterRoundOp r f 2 23 0xc4ac5665#32)

/-- STEP48 to STEP63: the sixteen steps of pass 3 with function I and the spec's own numbers (R112). -/
def Obligations.FourthPassStepsAreAsListed : Prop :=
  ∀ (s : State) (r : Running), s.running = some r →
    let f : Word := r.work.c ^^^ (r.work.b ||| ~~~r.work.d)
    exec .step48 s = .next (s.afterRoundOp r f 0 6 0xf4292244#32) ∧
    exec .step49 s = .next (s.afterRoundOp r f 7 10 0x432aff97#32) ∧
    exec .step50 s = .next (s.afterRoundOp r f 14 15 0xab9423a7#32) ∧
    exec .step51 s = .next (s.afterRoundOp r f 5 21 0xfc93a039#32) ∧
    exec .step52 s = .next (s.afterRoundOp r f 12 6 0x655b59c3#32) ∧
    exec .step53 s = .next (s.afterRoundOp r f 3 10 0x8f0ccc92#32) ∧
    exec .step54 s = .next (s.afterRoundOp r f 10 15 0xffeff47d#32) ∧
    exec .step55 s = .next (s.afterRoundOp r f 1 21 0x85845dd1#32) ∧
    exec .step56 s = .next (s.afterRoundOp r f 8 6 0x6fa87e4f#32) ∧
    exec .step57 s = .next (s.afterRoundOp r f 15 10 0xfe2ce6e0#32) ∧
    exec .step58 s = .next (s.afterRoundOp r f 6 15 0xa3014314#32) ∧
    exec .step59 s = .next (s.afterRoundOp r f 13 21 0x4e0811a1#32) ∧
    exec .step60 s = .next (s.afterRoundOp r f 4 6 0xf7537e82#32) ∧
    exec .step61 s = .next (s.afterRoundOp r f 11 10 0xbd3af235#32) ∧
    exec .step62 s = .next (s.afterRoundOp r f 2 15 0x2ad7d2bb#32) ∧
    exec .step63 s = .next (s.afterRoundOp r f 9 21 0xeb86d391#32)

/-- Every entry of the round table follows the pass's formulas, and the constants have the spec's checksums (41_transform.md section 5, 30_encoding.md section 4). -/
def Obligations.RoundTableHasItsRegularities : Prop :=
  (∀ i : Index, (tableEntry i).wellFormed i.toNat = true) ∧
    (roundTable.map RoundEntry.t).foldl (· + ·) 0#32 = 0x27f3a0bc#32 ∧
    (roundTable.map RoundEntry.t).foldl (· ^^^ ·) 0#32 = 0x10e6cc5a#32

/-- The sixty-four micro-operations run one by one give exactly the Transform of the command level (41_transform.md sections 3 and 7, 42_update.md section 4, 43_finalize.md section 2, 00_scope.md section 2).
That the machine can be stepped inside a command is the model's own (assumption log 6). -/
def Obligations.TransformIsSixtyFourRoundSteps : Prop :=
  ∀ s : State, s.NoResetNext →
    stepsFrom 64 s.beginTransform = .next (((s.setAcc (transform s.acc s.buf.block)).setPlen 0#6).setRunning none)

/-- A DATA beat performed in one step equals its finer-grained form: the write, then the Transform's steps one by one (00_scope.md section 2, 42_update.md section 4).
The finer-grained form is the model's own (assumption log 6). -/
def Obligations.DataIsItsFinerGrainedSteps : Prop :=
  ∀ (b : Byte) (s : State), s.AtBoundary → s.NoResetNext →
    stepsFrom (if s.plen.toNat = 63 then 64 else 0) (s.beginData b) = exec (.data b) s

/-- A FINAL performed in one step equals its finer-grained form: appends, Transforms and delivery one by one (00_scope.md section 2, 43_finalize.md sections 3 and 4).
The finer-grained form is the model's own (assumption log 6). -/
def Obligations.FinalIsItsFinerGrainedSteps : Prop :=
  ∀ (d : Byte) (s : State), s.AtBoundary → s.NoResetNext →
    stepsFrom (padLength s.plen + 8 + 64 * (if s.plen.toNat < 56 then 1 else 2) + 1) s.beginFinal = exec (.final d) s

/-- Transform's result adds, word by word and modulo 2^32, the accumulators to the working registers after step 63 (R116). -/
def Obligations.FeedForwardAddsTheOldAccumulators : Prop :=
  ∀ (acc w : Quad) (blk : Block), w = runRounds roundTable blk acc → roundTable.length = 64 ∧
    (transform acc blk).a.toNat = (acc.a.toNat + w.a.toNat) % 2 ^ 32 ∧
    (transform acc blk).b.toNat = (acc.b.toNat + w.b.toNat) % 2 ^ 32 ∧
    (transform acc blk).c.toNat = (acc.c.toNat + w.c.toNat) % 2 ^ 32 ∧
    (transform acc blk).d.toNat = (acc.d.toNat + w.d.toNat) % 2 ^ 32

/-- NOT32, AND32, OR32 and XOR32 work bit by bit within 32 bits (R86, R87, R88, R89). -/
def Obligations.BitwiseOperationsBitByBit : Prop :=
  ∀ x y : Word, (not32 x).toNat = 0xffffffff - x.toNat ∧ ∀ n, n < 32 →
    (not32 x).getLsbD n = !x.getLsbD n ∧ (and32 x y).getLsbD n = (x.getLsbD n && y.getLsbD n) ∧
    (or32 x y).getLsbD n = (x.getLsbD n || y.getLsbD n) ∧ (xor32 x y).getLsbD n = (x.getLsbD n != y.getLsbD n)

/-- ADD32 is the sum modulo 2^32, commutative and associative; INC64 adds 8 modulo 2^64, and n times it 8n (R90, R101). -/
def Obligations.AdditionsWrapAndDropTheCarry : Prop :=
  (∀ x y z : Word, (add32 x y).toNat = (x.toNat + y.toNat) % 2 ^ 32 ∧ add32 x y = add32 y x ∧
      add32 (add32 x y) z = add32 x (add32 y z)) ∧
    (∀ w x y z : Word, (sum4 w x y z).toNat = (w.toNat + x.toNat + y.toNat + z.toNat) % 2 ^ 32) ∧
    (∀ c : Count, (inc64 c).toNat = (c.toNat + 8) % 2 ^ 64) ∧
    (∀ (n : Nat) (c : Count), (Nat.repeat inc64 n c).toNat = (c.toNat + 8 * n) % 2 ^ 64)

/-- ROTL32(x, s): bit n of the result is bit (n - s) mod 32 of x, for every amount from 0 to 31 (R92). -/
def Obligations.RotationMovesEveryBitAndLosesNone : Prop :=
  ∀ (x : Word) (s : BitVec 5), (∀ n, n < 32 → (rotl32 x s).getLsbD n = x.getLsbD ((n + 32 - s.toNat) % 32)) ∧
    (1 ≤ s.toNat → (rotl32 x s).toNat = x.toNat * 2 ^ s.toNat % 2 ^ 32 + x.toNat / 2 ^ (32 - s.toNat)) ∧
    (s = 0#5 → rotl32 x s = x)

/-- F, G, H and I have the spec's truth table at every bit position, and MIX selects them by 0, 1, 2, 3 (R93, R94, R95, R96, R97). -/
def Obligations.MixingFunctionsHaveTheirTruthTables : Prop :=
  ∀ x y z : Word, (∀ n, n < 32 →
      (mixF x y z).getLsbD n = (if x.getLsbD n then y.getLsbD n else z.getLsbD n) ∧
      (mixG x y z).getLsbD n = (if z.getLsbD n then x.getLsbD n else y.getLsbD n) ∧
      (mixH x y z).getLsbD n = (x.getLsbD n != (y.getLsbD n != z.getLsbD n)) ∧
      (mixI x y z).getLsbD n = (y.getLsbD n != (x.getLsbD n || !z.getLsbD n))) ∧
    mix .f x y z = mixF x y z ∧ mix .g x y z = mixG x y z ∧ mix .h x y z = mixH x y z ∧ mix .i x y z = mixI x y z

/-- UNLE32, LE32 and LE64 put the least significant byte first, and LE32 and UNLE32 are inverse (R98, R99, R100). -/
def Obligations.LittleEndianPackingIsItsOwnInverse : Prop :=
  (∀ b0 b1 b2 b3 : Byte,
      (unle32 b0 b1 b2 b3).toNat = b0.toNat + 2 ^ 8 * b1.toNat + 2 ^ 16 * b2.toNat + 2 ^ 24 * b3.toNat ∧
      le32 (unle32 b0 b1 b2 b3) = [b0, b1, b2, b3]) ∧
    (∀ v : Word, le32 v = [v.extractLsb' 0 8, v.extractLsb' 8 8, v.extractLsb' 16 8, v.extractLsb' 24 8] ∧
      unle32 (v.extractLsb' 0 8) (v.extractLsb' 8 8) (v.extractLsb' 16 8) (v.extractLsb' 24 8) = v) ∧
    (∀ c : Count, le64 c = le32 (c.extractLsb' 0 32) ++ le32 (c.extractLsb' 32 32) ∧
      ∀ n, n < 8 → (le64 c)[n]? = some (c.extractLsb' (8 * n) 8))

/-- HEXNIB gives 0x30 + n up to 9 and 0x61 + (n - 10) from 10 on; HEXBYTE gives the high nibble first (R103, R104). -/
def Obligations.HexDigitsAreLowercaseAscii : Prop :=
  (∀ n : BitVec 4, (hexNib n).toNat = if n.toNat ≤ 9 then 0x30 + n.toNat else 0x61 + (n.toNat - 10)) ∧
    ∀ b : Byte, hexByte b = [hexNib (b.extractLsb' 4 4), hexNib (b.extractLsb' 0 4)]

/-- The HEX view is 32 characters of [0-9a-f], two per digest byte, the high nibble first, character m at HEX[8m+7:8m] (R71). -/
def Obligations.HexViewIsThirtyTwoCharacters : Prop :=
  ∀ d : Digest, (hexView d).length = 32 ∧
    (∀ c ∈ hexView d, (0x30 ≤ c.toNat ∧ c.toNat ≤ 0x39) ∨ (0x61 ≤ c.toNat ∧ c.toNat ≤ 0x66)) ∧
    (∀ n, n < 16 → (hexView d)[2 * n]? = some (hexNib (d.extractLsb' (8 * n + 4) 4)) ∧
      (hexView d)[2 * n + 1]? = some (hexNib (d.extractLsb' (8 * n) 4))) ∧
    (∀ n : BitVec 4, (hexNib n).toNat = if n.toNat ≤ 9 then 0x30 + n.toNat else 0x61 + n.toNat - 10) ∧
    ∀ m c, (hexView d)[m]? = some c → (hexPort d).extractLsb' (8 * m) 8 = c

/-- DIGEST holds A, B, C, D in its four words from the low end up, digest byte n at bits 8n+7:8n (R70, R147). -/
def Obligations.DigestRegisterPacksTheAccumulators : Prop :=
  ∀ q : Quad, serialise q = le32 q.a ++ le32 q.b ++ le32 q.c ++ le32 q.d ∧ (serialise q).length = 16 ∧
    (serialise q)[0]? = some (q.a.extractLsb' 0 8) ∧ (serialise q)[3]? = some (q.a.extractLsb' 24 8) ∧
    (serialise q)[4]? = some (q.b.extractLsb' 0 8) ∧ (serialise q)[15]? = some (q.d.extractLsb' 24 8) ∧
    (packDigest (serialise q)).extractLsb' 0 32 = q.a ∧ (packDigest (serialise q)).extractLsb' 32 32 = q.b ∧
    (packDigest (serialise q)).extractLsb' 64 32 = q.c ∧ (packDigest (serialise q)).extractLsb' 96 32 = q.d ∧
    ∀ n x, (serialise q)[n]? = some x → (packDigest (serialise q)).extractLsb' (8 * n) 8 = x

/-- M[j] is the little-endian word of BUF[4j] to BUF[4j+3], for j from 0 to 15 (R41, R106). -/
def Obligations.MessageWordsAreAViewOfTheBuffer : Prop :=
  ∀ (m : Memory), (∀ (j : Nat) (h : j < 64), m.block[j] = m.read j) ∧
    ∀ k : BitVec 4, (blockWord m.block k).toNat = (m.read (4 * k.toNat)).toNat + 2 ^ 8 * (m.read (4 * k.toNat + 1)).toNat +
      2 ^ 16 * (m.read (4 * k.toNat + 2)).toNat + 2 ^ 24 * (m.read (4 * k.toNat + 3)).toNat

/-- After reset A, B, C, D, COUNT, PLEN and DVALID hold the values the spec states, and nothing is in progress (R32). -/
def Obligations.ResetGivesTheStatedValues : Prop :=
  State.reset.acc.a = 0x67452301#32 ∧ State.reset.acc.b = 0xefcdab89#32 ∧ State.reset.acc.c = 0x98badcfe#32 ∧
    State.reset.acc.d = 0x10325476#32 ∧ State.reset.count = 0#64 ∧ State.reset.plen = 0#6 ∧
    State.reset.dvalid = false ∧ State.reset.running = none ∧ State.reset.finishing = none

/-- The state after reset satisfies the machine's invariant (10_state.md sections 3 and 7). -/
def Obligations.ResetStateIsInvariant : Prop :=
  State.reset.Inv

/-- Every step keeps the invariant: canonical BUF, COUNT[2:0] = 0, PLEN = (COUNT div 8) mod 64 at every boundary (10_state.md section 3, 43_finalize.md section 2). -/
def Obligations.EveryStepKeepsTheInvariant : Prop :=
  ∀ s t : State, s.Inv → step s = .next t → t.Inv

/-- Stale cells of BUF, DIGEST and DVALID never influence what the block does: every step keeps two such states alike (20_memory.md section 7, 93_implementation_defined.md part 2, 60_exceptions.md section 1). -/
def Obligations.NothingReadsUnspecifiedValues : Prop :=
  ∀ s t : State, SameButUnspecified s t → ∃ s' t', step s = .next s' ∧ step t = .next t' ∧ SameButUnspecified s' t'

/-- No instruction but FINAL changes DIGEST or DVALID, FINAL sets DVALID, and only the reset input clears it (10_state.md sections 5 and 6, 70_reset_and_hazards.md section 3). -/
def Obligations.OnlyFinalWritesTheOutputs : Prop :=
  (∀ (i : Instr) (s : State), (∀ d, i ≠ .final d) → ∃ t, exec i s = .next t ∧ t.digest = s.digest ∧ t.dvalid = s.dvalid) ∧
    (∀ (d : Byte) (s : State), ∃ t, exec (.final d) s = .next t ∧ t.dvalid = true) ∧
    ∀ s t : State, step s = .next t → s.dvalid = true → t.dvalid = false → ∃ w rest, s.port = .reset w :: rest

/-- Only INIT, FINAL and a DATA that completes a block change A, B, C, D; COUNT is changed by DATA, INIT and FINAL only (10_state.md sections 2 and 3, 41_transform.md section 1, 20_memory.md sections 1 and 2). -/
def Obligations.AccumulatorsChangeOnlyAtBlockEnds : Prop :=
  ∀ (i : Instr) (s t : State), exec i s = .next t →
    (t.acc ≠ s.acc → (∃ d, i = .init d) ∨ (∃ d, i = .final d) ∨ ((∃ b, i = .data b) ∧ s.plen = 63#6)) ∧
    (t.count ≠ s.count ∨ t.plen ≠ s.plen → (∃ d, i = .init d) ∨ (∃ d, i = .final d) ∨ ∃ b, i = .data b) ∧
    ((∃ a, t.buf.read a ≠ s.buf.read a) → (∃ d, i = .final d) ∨ ∃ b, i = .data b)

/-- However a byte sequence is split into updates, with IDLE beats anywhere, the resulting state is the same (42_update.md section 5, 95_test_vectors.md section 1 (S4)). -/
def Obligations.SplitsAndIdlesLeaveNoTrace : Prop :=
  (∀ (chunks : List (List Byte)) (s : State), execAll (chunks.flatMap update) s = execAll (update chunks.flatten) s) ∧
    ∀ (is : List Instr) (s : State), execAll (is.filter fun i => match i with | .idle _ => false | _ => true) s = execAll is s

/-- UPDATE of any byte sequence runs Transform once per completed block and carries the remainder forward (42_update.md section 5). -/
def Obligations.UpdateProcessesWholeBlocks : Prop :=
  ∀ (xs : List Byte) (s : State), ∃ t, execAll (update xs) s = .next t ∧
    t.count.toNat = (s.count.toNat + 8 * xs.length) % 2 ^ 64 ∧ t.acc = absorb s.acc (wholeBlocks (s.pending ++ xs)) ∧
    t.plen.toNat = (s.pending ++ xs).length % 64 ∧
    t.pending = (s.pending ++ xs).drop (64 * ((s.pending ++ xs).length / 64)) ∧ SameOutside s t

/-- A message given by DATA beats from the initial condition and followed by FINAL yields its closed-form digest (43_finalize.md section 4).
The list in which the beats and the further inputs stand is the model's own (assumption log 4). -/
def Obligations.MessageDigestClosedForm : Prop :=
  ∀ (x : List Byte) (d : Byte) (s : State) (rest : List Input), s.IsInitial → s.AtBoundary →
    ∃ t, stepsFrom (x.length + 1) (s.setPort (present (update x ++ [.final d]) ++ rest)) = .next t ∧
      digestBytes t.digest = messageDigest x ∧ hexView t.digest = messageHex x ∧ t.dvalid = true ∧ t.IsInitial ∧
      t.AtBoundary ∧ t.port = rest

/-- calculate(bytes) reports the closed-form hex string of its buffer from any state of the block (44_host_convenience.md section 2, 30_encoding.md section 6). -/
def Obligations.CalculateReportsTheMessageDigest : Prop :=
  ∀ (x : List Byte) (s : State), (calculateBytes x).report s = some (.ok (messageHex x))

/-- calculate(stream) equals calculate(bytes) on a clean end, and on a broken read reports the error and never a digest (44_host_convenience.md sections 2 and 3, 60_exceptions.md section 1).
That a list of reads which runs out counts as a clean end is the model's choice (assumption log 10). -/
def Obligations.StreamFormAgreesAndNeverHidesAFault : Prop :=
  (∀ (reads : List ReadResult) (s : State), streamFailure reads = none →
      (calculateStream reads).report s = (calculateBytes (streamBytes reads)).report s) ∧
    (∀ (reads : List ReadResult) (e : HostError) (s : State), streamFailure reads = some e → e = .streamRead ∧
      (calculateStream reads).report s = some (.error e) ∧ ∀ d, .final d ∉ (calculateStream reads).presented) ∧
    ∀ (f : HostFile) (s : State), f.binaryMode = none → (calculatePath f).presented = [] ∧
      (calculatePath f).report s = some (.error .fileOpen)
end

