-- ==== Sys2Proof/Laws/Memory.lean ====
section
/-! SUPPORT. The laws of BUF: a read after a write, the canonical form kept by every memory operation, equal contents
are equal data, and the views of a block (R41 to R43). -/

namespace Sys2Proof.Machine

theorem Memory.read_erase (m : Memory) (a b : Nat) :
    (m.erase a).read b = if b = a then Config.unlistedByte else m.read b := by
  induction m with
  | nil => simp [Memory.erase, Memory.read]
  | cons c rest ih =>
    obtain ⟨a', v'⟩ := c
    by_cases h : a' = a
    · subst h
      have : Memory.erase ((a', v') :: rest) a' = Memory.erase rest a' := by simp [Memory.erase]
      rw [this, ih]
      by_cases hb : b = a' <;> simp [Memory.read, hb]
    · have : Memory.erase ((a', v') :: rest) a = (a', v') :: Memory.erase rest a := by simp [Memory.erase, h]
      rw [this]
      simp only [Memory.read, ih]
      by_cases hb : b = a'
      · subst hb; simp [h]
      · simp [hb]

theorem Memory.read_insertCell_same (m : Memory) (a : Nat) (v : Byte) (h : ∀ c ∈ m, c.1 ≠ a) :
    (m.insertCell a v).read a = v := by
  induction m with
  | nil => simp [Memory.insertCell, Memory.read]
  | cons c rest ih =>
    obtain ⟨a', v'⟩ := c
    have ha : a' ≠ a := h (a', v') (by simp)
    simp only [Memory.insertCell]
    split
    · simp [Memory.read]
    · simp [Memory.read, ha.symm, ih fun c hc => h c (by simp [hc])]

theorem Memory.read_insertCell_other (m : Memory) (a b : Nat) (v : Byte) (h : b ≠ a) :
    (m.insertCell a v).read b = m.read b := by
  induction m with
  | nil => simp [Memory.insertCell, Memory.read, h]
  | cons c rest ih =>
    obtain ⟨a', v'⟩ := c
    simp only [Memory.insertCell]
    split
    · simp [Memory.read, h]
    · simp [Memory.read, ih]

/-- A read after a write: the byte written at its offset, every other offset untouched. -/
theorem Memory.read_write (m : Memory) (a b : Nat) (v : Byte) :
    (m.write a v).read b = if b = a then v else m.read b := by
  unfold Memory.write
  split
  · rename_i hv
    rw [Memory.read_erase, hv]
  · by_cases h : b = a
    · subst h
      rw [Memory.read_insertCell_same]
      · simp
      · intro c hc
        simpa using (List.mem_filter.mp hc).2
    · rw [Memory.read_insertCell_other _ _ _ _ h, Memory.read_erase, if_neg h, if_neg h]

theorem Memory.wfFrom_mono {lo lo' : Nat} (h : lo ≤ lo') {m : Memory} (hm : Memory.wfFrom lo' m = true) :
    Memory.wfFrom lo m = true := by
  cases m with
  | nil => rfl
  | cons c rest =>
    obtain ⟨a, v⟩ := c
    simp only [Memory.wfFrom, Bool.and_eq_true, decide_eq_true_eq] at hm ⊢
    exact ⟨⟨⟨by omega, hm.1.1.2⟩, hm.1.2⟩, hm.2⟩

theorem Memory.wfFrom_erase {lo : Nat} {m : Memory} (a : Nat) (hm : Memory.wfFrom lo m = true) :
    Memory.wfFrom lo (m.erase a) = true := by
  induction m generalizing lo with
  | nil => rfl
  | cons c rest ih =>
    obtain ⟨a', v'⟩ := c
    simp only [Memory.wfFrom, Bool.and_eq_true, decide_eq_true_eq] at hm
    by_cases h : a' = a
    · have : Memory.erase ((a', v') :: rest) a = Memory.erase rest a := by simp [Memory.erase, h]
      rw [this]
      exact Memory.wfFrom_mono (by omega) (ih hm.2)
    · have : Memory.erase ((a', v') :: rest) a = (a', v') :: Memory.erase rest a := by simp [Memory.erase, h]
      rw [this]
      simp only [Memory.wfFrom, Bool.and_eq_true, decide_eq_true_eq]
      exact ⟨hm.1, ih hm.2⟩

theorem Memory.wfFrom_insertCell {lo : Nat} {m : Memory} {a : Nat} {v : Byte} (hlo : lo ≤ a)
    (ha : a < Config.blockBytes) (hv : v ≠ Config.unlistedByte) (hne : ∀ c ∈ m, c.1 ≠ a)
    (hm : Memory.wfFrom lo m = true) : Memory.wfFrom lo (m.insertCell a v) = true := by
  induction m generalizing lo with
  | nil => simp [Memory.insertCell, Memory.wfFrom, hlo, ha, hv]
  | cons c rest ih =>
    obtain ⟨a', v'⟩ := c
    have hne' : a' ≠ a := hne (a', v') (by simp)
    simp only [Memory.wfFrom, Bool.and_eq_true, decide_eq_true_eq] at hm
    simp only [Memory.insertCell]
    split
    · rename_i hlt
      simp only [Memory.wfFrom, Bool.and_eq_true, decide_eq_true_eq]
      exact ⟨⟨⟨hlo, ha⟩, hv⟩, ⟨⟨by omega, hm.1.1.2⟩, hm.1.2⟩, hm.2⟩
    · simp only [Memory.wfFrom, Bool.and_eq_true, decide_eq_true_eq]
      exact ⟨hm.1, ih (by omega) (fun c hc => hne c (by simp [hc])) hm.2⟩

/-- A write to a cell that exists keeps the canonical form. -/
theorem Memory.wf_write {m : Memory} {a : Nat} (v : Byte) (ha : a < Config.blockBytes) (hm : m.wf = true) :
    (m.write a v).wf = true := by
  unfold Memory.write
  split
  · exact Memory.wfFrom_erase a hm
  · rename_i hv
    refine Memory.wfFrom_insertCell (Nat.zero_le a) ha hv ?_ (Memory.wfFrom_erase a hm)
    intro c hc
    simpa using (List.mem_filter.mp hc).2

/-- Bytes written one after another inside the buffer keep the canonical form. -/
theorem Memory.wf_writeBytes {m : Memory} {a : Nat} {xs : List Byte} (ha : a + xs.length ≤ Config.blockBytes)
    (hm : m.wf = true) : (m.writeBytes a xs).wf = true := by
  induction xs generalizing m a with
  | nil => exact hm
  | cons x xs ih =>
    simp only [List.length_cons] at ha
    exact ih (by omega) (Memory.wf_write x (by omega) hm)

/-- A read after bytes were written one after another. -/
theorem Memory.read_writeBytes (m : Memory) (a b : Nat) (xs : List Byte) :
    (m.writeBytes a xs).read b = if a ≤ b then xs.getD (b - a) (m.read b) else m.read b := by
  induction xs generalizing m a with
  | nil => simp [Memory.writeBytes]
  | cons x xs ih =>
    simp only [Memory.writeBytes, ih, Memory.read_write]
    by_cases h1 : a + 1 ≤ b
    · have h2 : b ≠ a := by omega
      have h3 : a ≤ b := by omega
      obtain ⟨k, hk⟩ : ∃ k, b - a = k + 1 := ⟨b - a - 1, by omega⟩
      have hk' : b - (a + 1) = k := by omega
      simp [h1, h2, h3, hk, hk']
    · by_cases h2 : b = a
      · subst h2; simp [h1]
      · have h3 : ¬ a ≤ b := by omega
        simp [h1, h2, h3]

/-- Bytes written in two runs are the bytes written in one. -/
theorem Memory.writeBytes_append (m : Memory) (a : Nat) (xs ys : List Byte) :
    m.writeBytes a (xs ++ ys) = (m.writeBytes a xs).writeBytes (a + xs.length) ys := by
  induction xs generalizing m a with
  | nil => rfl
  | cons x xs ih =>
    simp only [List.cons_append, Memory.writeBytes, ih, List.length_cons]
    congr 1
    omega

theorem Memory.read_of_wfFrom {lo : Nat} {m : Memory} (hm : Memory.wfFrom lo m = true) {a : Nat} (h : a < lo) :
    m.read a = Config.unlistedByte := by
  induction m generalizing lo with
  | nil => rfl
  | cons c rest ih =>
    obtain ⟨a', v'⟩ := c
    simp only [Memory.wfFrom, Bool.and_eq_true, decide_eq_true_eq] at hm
    simp only [Memory.read]
    rw [if_neg (by omega)]
    exact ih hm.2 (by omega)

/-- The form is canonical: two memories in it with the same contents are the same data. -/
theorem Memory.wfFrom_ext {lo : Nat} {m n : Memory} (hm : Memory.wfFrom lo m = true) (hn : Memory.wfFrom lo n = true)
    (h : ∀ a, m.read a = n.read a) : m = n := by
  induction m generalizing lo n with
  | nil =>
    cases n with
    | nil => rfl
    | cons c rest =>
      obtain ⟨a, v⟩ := c
      simp only [Memory.wfFrom, Bool.and_eq_true, decide_eq_true_eq] at hn
      have := h a
      simp [Memory.read] at this
      exact absurd this.symm hn.1.2
  | cons c rest ih =>
    obtain ⟨a, v⟩ := c
    have hm' := hm
    simp only [Memory.wfFrom, Bool.and_eq_true, decide_eq_true_eq] at hm'
    cases n with
    | nil =>
      have := h a
      simp [Memory.read] at this
      exact absurd this hm'.1.2
    | cons c' rest' =>
      obtain ⟨a', v'⟩ := c'
      have hn' := hn
      simp only [Memory.wfFrom, Bool.and_eq_true, decide_eq_true_eq] at hn'
      have haa : a = a' := by
        rcases Nat.lt_trichotomy a a' with hlt | heq | hgt
        · have h1 := h a
          simp only [Memory.read, if_true] at h1
          rw [if_neg (by omega), Memory.read_of_wfFrom hn'.2 (by omega)] at h1
          exact absurd h1 hm'.1.2
        · exact heq
        · have h1 := h a'
          simp only [Memory.read, if_true] at h1
          rw [if_neg (by omega), Memory.read_of_wfFrom hm'.2 (by omega)] at h1
          exact absurd h1.symm hn'.1.2
      subst haa
      have hvv : v = v' := by simpa [Memory.read] using h a
      subst hvv
      have : rest = rest' := by
        refine ih hm'.2 hn'.2 fun b => ?_
        by_cases hb : b = a
        · subst hb
          rw [Memory.read_of_wfFrom hm'.2 (by omega), Memory.read_of_wfFrom hn'.2 (by omega)]
        · simpa [Memory.read, hb] using h b
      rw [this]

/-- What the free contents of BUF after a reset read as. -/
theorem freeBuf_wf (n : Nat) : (freeBuf n).wf = true := by
  refine Memory.wf_writeBytes ?_ rfl
  simp

/-- BUF[j], j below 64, is the j-th byte of the block (R41). -/
theorem Memory.block_getElem (m : Memory) (j : Nat) (h : j < 64) : m.block[j] = m.read j := by
  simp [Memory.block]

/-- Two buffers with the same 64 bytes give Transform the same block. -/
theorem Memory.block_congr {m n : Memory} (h : ∀ j, j < 64 → m.read j = n.read j) : m.block = n.block := by
  apply Vector.ext
  intro j hj
  rw [Memory.block_getElem _ _ hj, Memory.block_getElem _ _ hj, h j hj]

/-- M[k] is MemRead(4k, 4): a view of BUF and no copy (R41, R43). -/
theorem blockWord_block (m : Memory) (k : BitVec 4) : blockWord m.block k = m.readWord (4 * k.toNat) := by
  simp [blockWord, Memory.readWord, Memory.block_getElem]

end Sys2Proof.Machine
end

