-- ==== Sys2Proof/Laws/State.lean ====
section
/-! SUPPORT. What each field reads as after each update of State: one lemma per field per update. -/

namespace Sys2Proof.Machine

@[simp] theorem State.setAcc_acc (s : State) (q : Quad) : (s.setAcc q).acc = q := (rfl)
@[simp] theorem State.setAcc_count (s : State) (q : Quad) : (s.setAcc q).count = s.count := (rfl)
@[simp] theorem State.setAcc_plen (s : State) (q : Quad) : (s.setAcc q).plen = s.plen := (rfl)
@[simp] theorem State.setAcc_buf (s : State) (q : Quad) : (s.setAcc q).buf = s.buf := (rfl)
@[simp] theorem State.setAcc_digest (s : State) (q : Quad) : (s.setAcc q).digest = s.digest := (rfl)
@[simp] theorem State.setAcc_dvalid (s : State) (q : Quad) : (s.setAcc q).dvalid = s.dvalid := (rfl)
@[simp] theorem State.setAcc_running (s : State) (q : Quad) : (s.setAcc q).running = s.running := (rfl)
@[simp] theorem State.setAcc_finishing (s : State) (q : Quad) : (s.setAcc q).finishing = s.finishing := (rfl)
@[simp] theorem State.setAcc_port (s : State) (q : Quad) : (s.setAcc q).port = s.port := (rfl)
@[simp] theorem State.setAcc_draws (s : State) (q : Quad) : (s.setAcc q).draws = s.draws := (rfl)

@[simp] theorem State.setCount_acc (s : State) (c : Count) : (s.setCount c).acc = s.acc := (rfl)
@[simp] theorem State.setCount_count (s : State) (c : Count) : (s.setCount c).count = c := (rfl)
@[simp] theorem State.setCount_plen (s : State) (c : Count) : (s.setCount c).plen = s.plen := (rfl)
@[simp] theorem State.setCount_buf (s : State) (c : Count) : (s.setCount c).buf = s.buf := (rfl)
@[simp] theorem State.setCount_digest (s : State) (c : Count) : (s.setCount c).digest = s.digest := (rfl)
@[simp] theorem State.setCount_dvalid (s : State) (c : Count) : (s.setCount c).dvalid = s.dvalid := (rfl)
@[simp] theorem State.setCount_running (s : State) (c : Count) : (s.setCount c).running = s.running := (rfl)
@[simp] theorem State.setCount_finishing (s : State) (c : Count) : (s.setCount c).finishing = s.finishing := (rfl)
@[simp] theorem State.setCount_port (s : State) (c : Count) : (s.setCount c).port = s.port := (rfl)
@[simp] theorem State.setCount_draws (s : State) (c : Count) : (s.setCount c).draws = s.draws := (rfl)

@[simp] theorem State.setPlen_acc (s : State) (p : Index) : (s.setPlen p).acc = s.acc := (rfl)
@[simp] theorem State.setPlen_count (s : State) (p : Index) : (s.setPlen p).count = s.count := (rfl)
@[simp] theorem State.setPlen_plen (s : State) (p : Index) : (s.setPlen p).plen = p := (rfl)
@[simp] theorem State.setPlen_buf (s : State) (p : Index) : (s.setPlen p).buf = s.buf := (rfl)
@[simp] theorem State.setPlen_digest (s : State) (p : Index) : (s.setPlen p).digest = s.digest := (rfl)
@[simp] theorem State.setPlen_dvalid (s : State) (p : Index) : (s.setPlen p).dvalid = s.dvalid := (rfl)
@[simp] theorem State.setPlen_running (s : State) (p : Index) : (s.setPlen p).running = s.running := (rfl)
@[simp] theorem State.setPlen_finishing (s : State) (p : Index) : (s.setPlen p).finishing = s.finishing := (rfl)
@[simp] theorem State.setPlen_port (s : State) (p : Index) : (s.setPlen p).port = s.port := (rfl)
@[simp] theorem State.setPlen_draws (s : State) (p : Index) : (s.setPlen p).draws = s.draws := (rfl)

@[simp] theorem State.setBuf_acc (s : State) (m : Memory) : (s.setBuf m).acc = s.acc := (rfl)
@[simp] theorem State.setBuf_count (s : State) (m : Memory) : (s.setBuf m).count = s.count := (rfl)
@[simp] theorem State.setBuf_plen (s : State) (m : Memory) : (s.setBuf m).plen = s.plen := (rfl)
@[simp] theorem State.setBuf_buf (s : State) (m : Memory) : (s.setBuf m).buf = m := (rfl)
@[simp] theorem State.setBuf_digest (s : State) (m : Memory) : (s.setBuf m).digest = s.digest := (rfl)
@[simp] theorem State.setBuf_dvalid (s : State) (m : Memory) : (s.setBuf m).dvalid = s.dvalid := (rfl)
@[simp] theorem State.setBuf_running (s : State) (m : Memory) : (s.setBuf m).running = s.running := (rfl)
@[simp] theorem State.setBuf_finishing (s : State) (m : Memory) : (s.setBuf m).finishing = s.finishing := (rfl)
@[simp] theorem State.setBuf_port (s : State) (m : Memory) : (s.setBuf m).port = s.port := (rfl)
@[simp] theorem State.setBuf_draws (s : State) (m : Memory) : (s.setBuf m).draws = s.draws := (rfl)

@[simp] theorem State.setDigest_acc (s : State) (d : Digest) : (s.setDigest d).acc = s.acc := (rfl)
@[simp] theorem State.setDigest_count (s : State) (d : Digest) : (s.setDigest d).count = s.count := (rfl)
@[simp] theorem State.setDigest_plen (s : State) (d : Digest) : (s.setDigest d).plen = s.plen := (rfl)
@[simp] theorem State.setDigest_buf (s : State) (d : Digest) : (s.setDigest d).buf = s.buf := (rfl)
@[simp] theorem State.setDigest_digest (s : State) (d : Digest) : (s.setDigest d).digest = d := (rfl)
@[simp] theorem State.setDigest_dvalid (s : State) (d : Digest) : (s.setDigest d).dvalid = s.dvalid := (rfl)
@[simp] theorem State.setDigest_running (s : State) (d : Digest) : (s.setDigest d).running = s.running := (rfl)
@[simp] theorem State.setDigest_finishing (s : State) (d : Digest) : (s.setDigest d).finishing = s.finishing := (rfl)
@[simp] theorem State.setDigest_port (s : State) (d : Digest) : (s.setDigest d).port = s.port := (rfl)
@[simp] theorem State.setDigest_draws (s : State) (d : Digest) : (s.setDigest d).draws = s.draws := (rfl)

@[simp] theorem State.setDvalid_acc (s : State) (v : Bool) : (s.setDvalid v).acc = s.acc := (rfl)
@[simp] theorem State.setDvalid_count (s : State) (v : Bool) : (s.setDvalid v).count = s.count := (rfl)
@[simp] theorem State.setDvalid_plen (s : State) (v : Bool) : (s.setDvalid v).plen = s.plen := (rfl)
@[simp] theorem State.setDvalid_buf (s : State) (v : Bool) : (s.setDvalid v).buf = s.buf := (rfl)
@[simp] theorem State.setDvalid_digest (s : State) (v : Bool) : (s.setDvalid v).digest = s.digest := (rfl)
@[simp] theorem State.setDvalid_dvalid (s : State) (v : Bool) : (s.setDvalid v).dvalid = v := (rfl)
@[simp] theorem State.setDvalid_running (s : State) (v : Bool) : (s.setDvalid v).running = s.running := (rfl)
@[simp] theorem State.setDvalid_finishing (s : State) (v : Bool) : (s.setDvalid v).finishing = s.finishing := (rfl)
@[simp] theorem State.setDvalid_port (s : State) (v : Bool) : (s.setDvalid v).port = s.port := (rfl)
@[simp] theorem State.setDvalid_draws (s : State) (v : Bool) : (s.setDvalid v).draws = s.draws := (rfl)

@[simp] theorem State.setRunning_acc (s : State) (r : Option Running) : (s.setRunning r).acc = s.acc := (rfl)
@[simp] theorem State.setRunning_count (s : State) (r : Option Running) : (s.setRunning r).count = s.count := (rfl)
@[simp] theorem State.setRunning_plen (s : State) (r : Option Running) : (s.setRunning r).plen = s.plen := (rfl)
@[simp] theorem State.setRunning_buf (s : State) (r : Option Running) : (s.setRunning r).buf = s.buf := (rfl)
@[simp] theorem State.setRunning_digest (s : State) (r : Option Running) : (s.setRunning r).digest = s.digest := (rfl)
@[simp] theorem State.setRunning_dvalid (s : State) (r : Option Running) : (s.setRunning r).dvalid = s.dvalid := (rfl)
@[simp] theorem State.setRunning_running (s : State) (r : Option Running) : (s.setRunning r).running = r := (rfl)
@[simp] theorem State.setRunning_finishing (s : State) (r : Option Running) : (s.setRunning r).finishing = s.finishing := (rfl)
@[simp] theorem State.setRunning_port (s : State) (r : Option Running) : (s.setRunning r).port = s.port := (rfl)
@[simp] theorem State.setRunning_draws (s : State) (r : Option Running) : (s.setRunning r).draws = s.draws := (rfl)

@[simp] theorem State.setFinishing_acc (s : State) (f : Option Finishing) : (s.setFinishing f).acc = s.acc := (rfl)
@[simp] theorem State.setFinishing_count (s : State) (f : Option Finishing) : (s.setFinishing f).count = s.count := (rfl)
@[simp] theorem State.setFinishing_plen (s : State) (f : Option Finishing) : (s.setFinishing f).plen = s.plen := (rfl)
@[simp] theorem State.setFinishing_buf (s : State) (f : Option Finishing) : (s.setFinishing f).buf = s.buf := (rfl)
@[simp] theorem State.setFinishing_digest (s : State) (f : Option Finishing) : (s.setFinishing f).digest = s.digest := (rfl)
@[simp] theorem State.setFinishing_dvalid (s : State) (f : Option Finishing) : (s.setFinishing f).dvalid = s.dvalid := (rfl)
@[simp] theorem State.setFinishing_running (s : State) (f : Option Finishing) : (s.setFinishing f).running = s.running := (rfl)
@[simp] theorem State.setFinishing_finishing (s : State) (f : Option Finishing) : (s.setFinishing f).finishing = f := (rfl)
@[simp] theorem State.setFinishing_port (s : State) (f : Option Finishing) : (s.setFinishing f).port = s.port := (rfl)
@[simp] theorem State.setFinishing_draws (s : State) (f : Option Finishing) : (s.setFinishing f).draws = s.draws := (rfl)

@[simp] theorem State.setPort_acc (s : State) (p : List Input) : (s.setPort p).acc = s.acc := (rfl)
@[simp] theorem State.setPort_count (s : State) (p : List Input) : (s.setPort p).count = s.count := (rfl)
@[simp] theorem State.setPort_plen (s : State) (p : List Input) : (s.setPort p).plen = s.plen := (rfl)
@[simp] theorem State.setPort_buf (s : State) (p : List Input) : (s.setPort p).buf = s.buf := (rfl)
@[simp] theorem State.setPort_digest (s : State) (p : List Input) : (s.setPort p).digest = s.digest := (rfl)
@[simp] theorem State.setPort_dvalid (s : State) (p : List Input) : (s.setPort p).dvalid = s.dvalid := (rfl)
@[simp] theorem State.setPort_running (s : State) (p : List Input) : (s.setPort p).running = s.running := (rfl)
@[simp] theorem State.setPort_finishing (s : State) (p : List Input) : (s.setPort p).finishing = s.finishing := (rfl)
@[simp] theorem State.setPort_port (s : State) (p : List Input) : (s.setPort p).port = p := (rfl)
@[simp] theorem State.setPort_draws (s : State) (p : List Input) : (s.setPort p).draws = s.draws := (rfl)

@[simp] theorem State.setDraws_acc (s : State) (n : Nat) : (s.setDraws n).acc = s.acc := (rfl)
@[simp] theorem State.setDraws_count (s : State) (n : Nat) : (s.setDraws n).count = s.count := (rfl)
@[simp] theorem State.setDraws_plen (s : State) (n : Nat) : (s.setDraws n).plen = s.plen := (rfl)
@[simp] theorem State.setDraws_buf (s : State) (n : Nat) : (s.setDraws n).buf = s.buf := (rfl)
@[simp] theorem State.setDraws_digest (s : State) (n : Nat) : (s.setDraws n).digest = s.digest := (rfl)
@[simp] theorem State.setDraws_dvalid (s : State) (n : Nat) : (s.setDraws n).dvalid = s.dvalid := (rfl)
@[simp] theorem State.setDraws_running (s : State) (n : Nat) : (s.setDraws n).running = s.running := (rfl)
@[simp] theorem State.setDraws_finishing (s : State) (n : Nat) : (s.setDraws n).finishing = s.finishing := (rfl)
@[simp] theorem State.setDraws_port (s : State) (n : Nat) : (s.setDraws n).port = s.port := (rfl)
@[simp] theorem State.setDraws_draws (s : State) (n : Nat) : (s.setDraws n).draws = n := (rfl)

@[simp] theorem State.raiseDvalid_acc (s : State) : s.raiseDvalid.acc = s.acc := (rfl)
@[simp] theorem State.raiseDvalid_count (s : State) : s.raiseDvalid.count = s.count := (rfl)
@[simp] theorem State.raiseDvalid_plen (s : State) : s.raiseDvalid.plen = s.plen := (rfl)
@[simp] theorem State.raiseDvalid_buf (s : State) : s.raiseDvalid.buf = s.buf := (rfl)
@[simp] theorem State.raiseDvalid_digest (s : State) : s.raiseDvalid.digest = s.digest := (rfl)
@[simp] theorem State.raiseDvalid_dvalid (s : State) : s.raiseDvalid.dvalid = true := (rfl)
@[simp] theorem State.raiseDvalid_running (s : State) : s.raiseDvalid.running = s.running := (rfl)
@[simp] theorem State.raiseDvalid_finishing (s : State) : s.raiseDvalid.finishing = s.finishing := (rfl)
@[simp] theorem State.raiseDvalid_port (s : State) : s.raiseDvalid.port = s.port := (rfl)
@[simp] theorem State.raiseDvalid_draws (s : State) : s.raiseDvalid.draws = s.draws := (rfl)

@[simp] theorem State.clearDvalid_acc (s : State) : s.clearDvalid.acc = s.acc := (rfl)
@[simp] theorem State.clearDvalid_count (s : State) : s.clearDvalid.count = s.count := (rfl)
@[simp] theorem State.clearDvalid_plen (s : State) : s.clearDvalid.plen = s.plen := (rfl)
@[simp] theorem State.clearDvalid_buf (s : State) : s.clearDvalid.buf = s.buf := (rfl)
@[simp] theorem State.clearDvalid_digest (s : State) : s.clearDvalid.digest = s.digest := (rfl)
@[simp] theorem State.clearDvalid_dvalid (s : State) : s.clearDvalid.dvalid = false := (rfl)
@[simp] theorem State.clearDvalid_running (s : State) : s.clearDvalid.running = s.running := (rfl)
@[simp] theorem State.clearDvalid_finishing (s : State) : s.clearDvalid.finishing = s.finishing := (rfl)
@[simp] theorem State.clearDvalid_port (s : State) : s.clearDvalid.port = s.port := (rfl)
@[simp] theorem State.clearDvalid_draws (s : State) : s.clearDvalid.draws = s.draws := (rfl)

@[simp] theorem State.initial_acc (s : State) : (s.initial).acc = Config.initAcc := by simp [State.initial]
@[simp] theorem State.initial_count (s : State) : (s.initial).count = 0#64 := by simp [State.initial]
@[simp] theorem State.initial_plen (s : State) : (s.initial).plen = 0#6 := by simp [State.initial]
@[simp] theorem State.initial_buf (s : State) : (s.initial).buf = s.buf := by simp [State.initial]
@[simp] theorem State.initial_digest (s : State) : (s.initial).digest = s.digest := by simp [State.initial]
@[simp] theorem State.initial_dvalid (s : State) : (s.initial).dvalid = s.dvalid := by simp [State.initial]
@[simp] theorem State.initial_running (s : State) : (s.initial).running = s.running := by simp [State.initial]
@[simp] theorem State.initial_finishing (s : State) : (s.initial).finishing = s.finishing := by simp [State.initial]
@[simp] theorem State.initial_port (s : State) : (s.initial).port = s.port := by simp [State.initial]
@[simp] theorem State.initial_draws (s : State) : (s.initial).draws = s.draws := by simp [State.initial]

@[simp] theorem State.deliver_acc (s : State) (dg : List Byte) : (s.deliver dg).acc = s.acc := by simp [State.deliver]
@[simp] theorem State.deliver_count (s : State) (dg : List Byte) : (s.deliver dg).count = s.count := by simp [State.deliver]
@[simp] theorem State.deliver_plen (s : State) (dg : List Byte) : (s.deliver dg).plen = s.plen := by simp [State.deliver]
@[simp] theorem State.deliver_buf (s : State) (dg : List Byte) : (s.deliver dg).buf = s.buf := by simp [State.deliver]
@[simp] theorem State.deliver_digest (s : State) (dg : List Byte) : (s.deliver dg).digest = packDigest dg := by simp [State.deliver]
@[simp] theorem State.deliver_dvalid (s : State) (dg : List Byte) : (s.deliver dg).dvalid = true := by simp [State.deliver]
@[simp] theorem State.deliver_running (s : State) (dg : List Byte) : (s.deliver dg).running = s.running := by simp [State.deliver]
@[simp] theorem State.deliver_finishing (s : State) (dg : List Byte) : (s.deliver dg).finishing = s.finishing := by simp [State.deliver]
@[simp] theorem State.deliver_port (s : State) (dg : List Byte) : (s.deliver dg).port = s.port := by simp [State.deliver]
@[simp] theorem State.deliver_draws (s : State) (dg : List Byte) : (s.deliver dg).draws = s.draws := by simp [State.deliver]

@[simp] theorem State.finishDigest_acc (s : State) : (s.finishDigest).acc = Config.initAcc := by simp [State.finishDigest]
@[simp] theorem State.finishDigest_count (s : State) : (s.finishDigest).count = 0#64 := by simp [State.finishDigest]
@[simp] theorem State.finishDigest_plen (s : State) : (s.finishDigest).plen = 0#6 := by simp [State.finishDigest]
@[simp] theorem State.finishDigest_buf (s : State) : (s.finishDigest).buf = s.buf := by simp [State.finishDigest]
@[simp] theorem State.finishDigest_digest (s : State) : (s.finishDigest).digest = packDigest (serialise s.acc) := by simp [State.finishDigest]
@[simp] theorem State.finishDigest_dvalid (s : State) : (s.finishDigest).dvalid = true := by simp [State.finishDigest]
@[simp] theorem State.finishDigest_running (s : State) : (s.finishDigest).running = s.running := by simp [State.finishDigest]
@[simp] theorem State.finishDigest_finishing (s : State) : (s.finishDigest).finishing = s.finishing := by simp [State.finishDigest]
@[simp] theorem State.finishDigest_port (s : State) : (s.finishDigest).port = s.port := by simp [State.finishDigest]
@[simp] theorem State.finishDigest_draws (s : State) : (s.finishDigest).draws = s.draws := by simp [State.finishDigest]

@[simp] theorem State.writePending_acc (s : State) (x : Byte) : (s.writePending x).acc = s.acc := by simp [State.writePending]
@[simp] theorem State.writePending_count (s : State) (x : Byte) : (s.writePending x).count = s.count := by simp [State.writePending]
@[simp] theorem State.writePending_plen (s : State) (x : Byte) : (s.writePending x).plen = s.plen := by simp [State.writePending]
@[simp] theorem State.writePending_buf (s : State) (x : Byte) : (s.writePending x).buf = s.buf.write s.plen.toNat x := by simp [State.writePending]
@[simp] theorem State.writePending_digest (s : State) (x : Byte) : (s.writePending x).digest = s.digest := by simp [State.writePending]
@[simp] theorem State.writePending_dvalid (s : State) (x : Byte) : (s.writePending x).dvalid = s.dvalid := by simp [State.writePending]
@[simp] theorem State.writePending_running (s : State) (x : Byte) : (s.writePending x).running = s.running := by simp [State.writePending]
@[simp] theorem State.writePending_finishing (s : State) (x : Byte) : (s.writePending x).finishing = s.finishing := by simp [State.writePending]
@[simp] theorem State.writePending_port (s : State) (x : Byte) : (s.writePending x).port = s.port := by simp [State.writePending]
@[simp] theorem State.writePending_draws (s : State) (x : Byte) : (s.writePending x).draws = s.draws := by simp [State.writePending]

@[simp] theorem State.transformBlock_acc (s : State) : (s.transformBlock).acc = transform s.acc s.buf.block := by simp [State.transformBlock]
@[simp] theorem State.transformBlock_count (s : State) : (s.transformBlock).count = s.count := by simp [State.transformBlock]
@[simp] theorem State.transformBlock_plen (s : State) : (s.transformBlock).plen = s.plen := by simp [State.transformBlock]
@[simp] theorem State.transformBlock_buf (s : State) : (s.transformBlock).buf = s.buf := by simp [State.transformBlock]
@[simp] theorem State.transformBlock_digest (s : State) : (s.transformBlock).digest = s.digest := by simp [State.transformBlock]
@[simp] theorem State.transformBlock_dvalid (s : State) : (s.transformBlock).dvalid = s.dvalid := by simp [State.transformBlock]
@[simp] theorem State.transformBlock_running (s : State) : (s.transformBlock).running = s.running := by simp [State.transformBlock]
@[simp] theorem State.transformBlock_finishing (s : State) : (s.transformBlock).finishing = s.finishing := by simp [State.transformBlock]
@[simp] theorem State.transformBlock_port (s : State) : (s.transformBlock).port = s.port := by simp [State.transformBlock]
@[simp] theorem State.transformBlock_draws (s : State) : (s.transformBlock).draws = s.draws := by simp [State.transformBlock]

@[simp] theorem State.resetInput_acc (s : State) : (s.resetInput).acc = Config.initAcc := by simp [State.resetInput]
@[simp] theorem State.resetInput_count (s : State) : (s.resetInput).count = 0#64 := by simp [State.resetInput]
@[simp] theorem State.resetInput_plen (s : State) : (s.resetInput).plen = 0#6 := by simp [State.resetInput]
@[simp] theorem State.resetInput_buf (s : State) : (s.resetInput).buf = freeBuf s.draws := by simp [State.resetInput]
@[simp] theorem State.resetInput_digest (s : State) : (s.resetInput).digest = Config.freeDigest s.draws := by simp [State.resetInput]
@[simp] theorem State.resetInput_dvalid (s : State) : (s.resetInput).dvalid = false := by simp [State.resetInput]
@[simp] theorem State.resetInput_running (s : State) : (s.resetInput).running = none := by simp [State.resetInput]
@[simp] theorem State.resetInput_finishing (s : State) : (s.resetInput).finishing = none := by simp [State.resetInput]
@[simp] theorem State.resetInput_port (s : State) : (s.resetInput).port = s.port := by simp [State.resetInput]
@[simp] theorem State.resetInput_draws (s : State) : (s.resetInput).draws = s.draws + 1 := by simp [State.resetInput]

@[simp] theorem State.roundOp_acc (s : State) (e : RoundEntry) : (s.roundOp e).acc = s.acc := by simp [State.roundOp]
@[simp] theorem State.roundOp_count (s : State) (e : RoundEntry) : (s.roundOp e).count = s.count := by simp [State.roundOp]
@[simp] theorem State.roundOp_plen (s : State) (e : RoundEntry) : (s.roundOp e).plen = s.plen := by simp [State.roundOp]
@[simp] theorem State.roundOp_buf (s : State) (e : RoundEntry) : (s.roundOp e).buf = s.buf := by simp [State.roundOp]
@[simp] theorem State.roundOp_digest (s : State) (e : RoundEntry) : (s.roundOp e).digest = s.digest := by simp [State.roundOp]
@[simp] theorem State.roundOp_dvalid (s : State) (e : RoundEntry) : (s.roundOp e).dvalid = s.dvalid := by simp [State.roundOp]
@[simp] theorem State.roundOp_running (s : State) (e : RoundEntry) : (s.roundOp e).running = s.running.map fun r => { r with work := roundStep e s.buf.block r.work } := by simp [State.roundOp]
@[simp] theorem State.roundOp_finishing (s : State) (e : RoundEntry) : (s.roundOp e).finishing = s.finishing := by simp [State.roundOp]
@[simp] theorem State.roundOp_port (s : State) (e : RoundEntry) : (s.roundOp e).port = s.port := by simp [State.roundOp]
@[simp] theorem State.roundOp_draws (s : State) (e : RoundEntry) : (s.roundOp e).draws = s.draws := by simp [State.roundOp]

@[simp] theorem State.beginTransform_acc (s : State) : (s.beginTransform).acc = s.acc := by simp [State.beginTransform]
@[simp] theorem State.beginTransform_count (s : State) : (s.beginTransform).count = s.count := by simp [State.beginTransform]
@[simp] theorem State.beginTransform_plen (s : State) : (s.beginTransform).plen = s.plen := by simp [State.beginTransform]
@[simp] theorem State.beginTransform_buf (s : State) : (s.beginTransform).buf = s.buf := by simp [State.beginTransform]
@[simp] theorem State.beginTransform_digest (s : State) : (s.beginTransform).digest = s.digest := by simp [State.beginTransform]
@[simp] theorem State.beginTransform_dvalid (s : State) : (s.beginTransform).dvalid = s.dvalid := by simp [State.beginTransform]
@[simp] theorem State.beginTransform_running (s : State) : (s.beginTransform).running = some ⟨0#6, s.acc⟩ := by simp [State.beginTransform]
@[simp] theorem State.beginTransform_finishing (s : State) : (s.beginTransform).finishing = s.finishing := by simp [State.beginTransform]
@[simp] theorem State.beginTransform_port (s : State) : (s.beginTransform).port = s.port := by simp [State.beginTransform]
@[simp] theorem State.beginTransform_draws (s : State) : (s.beginTransform).draws = s.draws := by simp [State.beginTransform]

@[simp] theorem State.endTransform_acc (s : State) (w : Quad) : (s.endTransform w).acc = feedForward s.acc w := by simp [State.endTransform]
@[simp] theorem State.endTransform_count (s : State) (w : Quad) : (s.endTransform w).count = s.count := by simp [State.endTransform]
@[simp] theorem State.endTransform_plen (s : State) (w : Quad) : (s.endTransform w).plen = 0#6 := by simp [State.endTransform]
@[simp] theorem State.endTransform_buf (s : State) (w : Quad) : (s.endTransform w).buf = s.buf := by simp [State.endTransform]
@[simp] theorem State.endTransform_digest (s : State) (w : Quad) : (s.endTransform w).digest = s.digest := by simp [State.endTransform]
@[simp] theorem State.endTransform_dvalid (s : State) (w : Quad) : (s.endTransform w).dvalid = s.dvalid := by simp [State.endTransform]
@[simp] theorem State.endTransform_running (s : State) (w : Quad) : (s.endTransform w).running = none := by simp [State.endTransform]
@[simp] theorem State.endTransform_finishing (s : State) (w : Quad) : (s.endTransform w).finishing = s.finishing := by simp [State.endTransform]
@[simp] theorem State.endTransform_port (s : State) (w : Quad) : (s.endTransform w).port = s.port := by simp [State.endTransform]
@[simp] theorem State.endTransform_draws (s : State) (w : Quad) : (s.endTransform w).draws = s.draws := by simp [State.endTransform]

@[simp] theorem State.beginFinal_acc (s : State) : (s.beginFinal).acc = s.acc := by simp [State.beginFinal]
@[simp] theorem State.beginFinal_count (s : State) : (s.beginFinal).count = s.count := by simp [State.beginFinal]
@[simp] theorem State.beginFinal_plen (s : State) : (s.beginFinal).plen = s.plen := by simp [State.beginFinal]
@[simp] theorem State.beginFinal_buf (s : State) : (s.beginFinal).buf = s.buf := by simp [State.beginFinal]
@[simp] theorem State.beginFinal_digest (s : State) : (s.beginFinal).digest = s.digest := by simp [State.beginFinal]
@[simp] theorem State.beginFinal_dvalid (s : State) : (s.beginFinal).dvalid = s.dvalid := by simp [State.beginFinal]
@[simp] theorem State.beginFinal_running (s : State) : (s.beginFinal).running = s.running := by simp [State.beginFinal]
@[simp] theorem State.beginFinal_finishing (s : State) : (s.beginFinal).finishing = some ⟨s.count, padLength s.plen, 0⟩ := by simp [State.beginFinal]
@[simp] theorem State.beginFinal_port (s : State) : (s.beginFinal).port = s.port := by simp [State.beginFinal]
@[simp] theorem State.beginFinal_draws (s : State) : (s.beginFinal).draws = s.draws := by simp [State.beginFinal]

/-- Two states with equal fields are equal. -/
theorem State.ext_fields {s t : State} (acc : s.acc = t.acc) (count : s.count = t.count) (plen : s.plen = t.plen)
    (buf : s.buf = t.buf) (digest : s.digest = t.digest) (dvalid : s.dvalid = t.dvalid)
    (running : s.running = t.running) (finishing : s.finishing = t.finishing) (port : s.port = t.port)
    (draws : s.draws = t.draws) : s = t := by
  cases s; cases t; cases acc; cases count; cases plen; cases buf; cases digest; cases dvalid; cases running; cases finishing
  cases port; cases draws; rfl

end Sys2Proof.Machine
end

