-- ==== Sys2Proof/Laws/Ops.lean ====
section
/-! SUPPORT. What each shared operation can do, said once: the append and runs of appends, the lengths of what FINAL
appends and delivers, and runs of round steps. -/

namespace Sys2Proof.Machine

/-! ### One append -/

theorem State.append_buf (s : State) (x : Byte) : (s.append x).buf = s.buf.write s.plen.toNat x := by
  unfold State.append State.advancePending
  split <;> simp

/-- Everything an append does when the block stays incomplete. -/
theorem State.append_of_ne {s : State} (h : s.plen ≠ 63#6) (x : Byte) :
    s.append x = (s.writePending x).setPlen (s.plen + 1#6) := by
  unfold State.append State.advancePending
  rw [if_neg (by simpa using h)]
  simp

/-- Everything an append does when it completes the block. -/
theorem State.append_of_full {s : State} (h : s.plen = 63#6) (x : Byte) :
    s.append x = (s.writePending x).transformBlock.setPlen 0#6 := by
  unfold State.append State.advancePending
  rw [if_pos (by simpa using h)]

@[simp] theorem State.append_count (s : State) (x : Byte) : (s.append x).count = s.count := by
  unfold State.append State.advancePending; split <;> simp

@[simp] theorem State.append_digest (s : State) (x : Byte) : (s.append x).digest = s.digest := by
  unfold State.append State.advancePending; split <;> simp

@[simp] theorem State.append_dvalid (s : State) (x : Byte) : (s.append x).dvalid = s.dvalid := by
  unfold State.append State.advancePending; split <;> simp

@[simp] theorem State.append_running (s : State) (x : Byte) : (s.append x).running = s.running := by
  unfold State.append State.advancePending; split <;> simp

@[simp] theorem State.append_finishing (s : State) (x : Byte) : (s.append x).finishing = s.finishing := by
  unfold State.append State.advancePending; split <;> simp

@[simp] theorem State.append_port (s : State) (x : Byte) : (s.append x).port = s.port := by
  unfold State.append State.advancePending; split <;> simp

@[simp] theorem State.append_draws (s : State) (x : Byte) : (s.append x).draws = s.draws := by
  unfold State.append State.advancePending; split <;> simp

/-- An append keeps BUF in canonical form. -/
theorem State.append_wf {s : State} (x : Byte) (h : s.buf.wf = true) : (s.append x).buf.wf = true := by
  rw [State.append_buf]
  exact Memory.wf_write x (by have := s.plen.isLt; simpa [Config.blockBytes] using this) h

/-! ### A run of appends -/

@[simp] theorem State.appendAll_nil (s : State) : s.appendAll [] = s := (rfl)

@[simp] theorem State.appendAll_cons (s : State) (x : Byte) (xs : List Byte) :
    s.appendAll (x :: xs) = (s.append x).appendAll xs := (rfl)

theorem State.appendAll_append (s : State) (xs ys : List Byte) :
    s.appendAll (xs ++ ys) = (s.appendAll xs).appendAll ys := by
  simp [State.appendAll, List.foldl_append]

@[simp] theorem State.appendAll_count (s : State) (xs : List Byte) : (s.appendAll xs).count = s.count := by
  induction xs generalizing s with
  | nil => simp
  | cons x xs ih => simp [ih]

@[simp] theorem State.appendAll_digest (s : State) (xs : List Byte) : (s.appendAll xs).digest = s.digest := by
  induction xs generalizing s with
  | nil => simp
  | cons x xs ih => simp [ih]

@[simp] theorem State.appendAll_dvalid (s : State) (xs : List Byte) : (s.appendAll xs).dvalid = s.dvalid := by
  induction xs generalizing s with
  | nil => simp
  | cons x xs ih => simp [ih]

@[simp] theorem State.appendAll_running (s : State) (xs : List Byte) : (s.appendAll xs).running = s.running := by
  induction xs generalizing s with
  | nil => simp
  | cons x xs ih => simp [ih]

@[simp] theorem State.appendAll_finishing (s : State) (xs : List Byte) :
    (s.appendAll xs).finishing = s.finishing := by
  induction xs generalizing s with
  | nil => simp
  | cons x xs ih => simp [ih]

@[simp] theorem State.appendAll_port (s : State) (xs : List Byte) : (s.appendAll xs).port = s.port := by
  induction xs generalizing s with
  | nil => simp
  | cons x xs ih => simp [ih]

@[simp] theorem State.appendAll_draws (s : State) (xs : List Byte) : (s.appendAll xs).draws = s.draws := by
  induction xs generalizing s with
  | nil => simp
  | cons x xs ih => simp [ih]

/-- A run of appends keeps BUF in canonical form. -/
theorem State.appendAll_wf {s : State} (xs : List Byte) (h : s.buf.wf = true) : (s.appendAll xs).buf.wf = true := by
  induction xs generalizing s with
  | nil => simpa using h
  | cons x xs ih => simpa using ih (State.append_wf x h)

/-- A run of appends that leaves the block incomplete: the bytes land one after another from offset PLEN on, and
nothing else but PLEN changes. -/
theorem State.appendAll_of_lt {s : State} {xs : List Byte} (h : s.plen.toNat + xs.length < 64) :
    s.appendAll xs =
      (s.setBuf (s.buf.writeBytes s.plen.toNat xs)).setPlen (BitVec.ofNat 6 (s.plen.toNat + xs.length)) := by
  induction xs generalizing s with
  | nil => cases s; simp [State.setBuf, State.setPlen, Memory.writeBytes]
  | cons x xs ih =>
    simp only [List.length_cons] at h
    have hne : s.plen ≠ 63#6 := by
      intro hp
      rw [hp] at h
      simp at h
      omega
    have hp : (s.plen + 1#6).toNat = s.plen.toNat + 1 := by
      rw [BitVec.toNat_add]
      simp
      omega
    rw [State.appendAll_cons, State.append_of_ne hne, ih (by simp [hp]; omega)]
    cases s
    simp only [State.setBuf, State.setPlen, State.writePending, Memory.writeBytes, List.length_cons] at hp ⊢
    rw [hp]
    congr 2
    omega

/-- A run of appends that just completes the block: one Transform on the block with the bytes in place, PLEN = 0. -/
theorem State.appendAll_of_eq {s : State} {xs : List Byte} (h : s.plen.toNat + xs.length = 64) :
    s.appendAll xs =
      (s.setBuf (s.buf.writeBytes s.plen.toNat xs)).transformBlock.setPlen 0#6 := by
  have hlt := s.plen.isLt
  have hx : xs ≠ [] := by intro hn; subst hn; simp at h; omega
  obtain ⟨ys, y, rfl⟩ : ∃ ys y, xs = ys ++ [y] := ⟨xs.dropLast, xs.getLast hx, (List.dropLast_concat_getLast hx).symm⟩
  simp only [List.length_append, List.length_cons, List.length_nil] at h
  have h63 : s.plen.toNat + ys.length = 63 := by omega
  rw [State.appendAll_append, State.appendAll_of_lt (s := s) (xs := ys) (by omega), h63, State.appendAll_cons, State.appendAll_nil,
    State.append_of_full (by simp), Memory.writeBytes_append, h63]
  cases s
  simp [State.setBuf, State.setPlen, State.writePending, State.transformBlock, State.setAcc, Memory.writeBytes]

/-! ### Lengths -/

@[simp] theorem le32_length (v : Word) : (le32 v).length = 4 := (rfl)

@[simp] theorem le64_length (c : Count) : (le64 c).length = 8 := (rfl)

@[simp] theorem hexByte_length (b : Byte) : (hexByte b).length = 2 := (rfl)

@[simp] theorem serialise_length (q : Quad) : (serialise q).length = 16 := by simp [serialise]

theorem paddingBytes_length {padn : Nat} (h : 1 ≤ padn) : (paddingBytes padn).length = padn := by
  simp [paddingBytes]
  omega

theorem finalBytes_length (len : Count) {padn : Nat} (h : 1 ≤ padn) : (finalBytes len padn).length = padn + 8 := by
  simp [finalBytes, paddingBytes_length h]

theorem renderHex_length (bytes : List Byte) : (renderHex bytes).length = 2 * bytes.length := by
  induction bytes with
  | nil => rfl
  | cons b bs ih =>
    have h : renderHex (b :: bs) = hexByte b ++ renderHex bs := by simp [renderHex]
    rw [h, List.length_append, ih, hexByte_length, List.length_cons]
    omega

/-! ### Round steps -/

/-- The rounds of two lists of entries, one after the other. -/
theorem runRounds_append (es fs : List RoundEntry) (blk : Block) (q : Quad) :
    runRounds (es ++ fs) blk q = runRounds fs blk (runRounds es blk q) := by
  simp [runRounds, List.foldl_append]

/-- Blocks absorbed in two runs are the blocks absorbed in one. -/
theorem absorb_append (acc : Quad) (bs cs : List Block) : absorb acc (bs ++ cs) = absorb (absorb acc bs) cs := by
  simp [absorb, List.foldl_append]

/-- Instructions performed in two runs are the instructions performed in one. -/
theorem execAll_append {is js : List Instr} {s t : State} (h : execAll is s = .next t) :
    execAll (is ++ js) s = execAll js t := by
  induction is generalizing s with
  | nil => simp only [execAll, Host.Outcome.next.injEq] at h; simp [h]
  | cons i is ih =>
    simp only [List.cons_append, execAll] at h ⊢
    split at h
    · exact ih h
    · cases h
    · cases h

end Sys2Proof.Machine
end

