-- ==== Sys2Proof/Laws/PerInstr.lean ====
section
/-! SUPPORT. Statements about every instruction as syntax, one lemma per constructor of Instr. OpcodeRow: the word the
encoder writes satisfies `(w AND mask) = match` of that instruction's own row of spec/opcode_table.json (R75, R76). -/

namespace Sys2Proof.Laws.OpcodeRow

/-- The encoding of the instruction is selected by its own row of the opcode table. -/
def Statement (i : Instr) : Prop := (tableRow i).selects (encode i).raw = true

/-- The command field of a beat survives the mask 0x300, whatever the data field. -/
theorem mkBeat_masked : ∀ (cmd : BitVec 2) (data : Byte), (mkBeat cmd data).toNat &&& 0x300 = cmd.toNat * 0x100 := by
  decide +kernel

theorem idle (d : Byte) : Statement (.idle d) := by
  simp [Statement, TableRow.selects, tableRow, encode, Encoded.raw, mkBeat_masked]

theorem data (b : Byte) : Statement (.data b) := by
  simp [Statement, TableRow.selects, tableRow, encode, Encoded.raw, mkBeat_masked]

theorem final (d : Byte) : Statement (.final d) := by
  simp [Statement, TableRow.selects, tableRow, encode, Encoded.raw, mkBeat_masked]

theorem init (d : Byte) : Statement (.init d) := by
  simp [Statement, TableRow.selects, tableRow, encode, Encoded.raw, mkBeat_masked]

theorem step00 : Statement .step00 := rfl
theorem step01 : Statement .step01 := rfl
theorem step02 : Statement .step02 := rfl
theorem step03 : Statement .step03 := rfl
theorem step04 : Statement .step04 := rfl
theorem step05 : Statement .step05 := rfl
theorem step06 : Statement .step06 := rfl
theorem step07 : Statement .step07 := rfl
theorem step08 : Statement .step08 := rfl
theorem step09 : Statement .step09 := rfl
theorem step10 : Statement .step10 := rfl
theorem step11 : Statement .step11 := rfl
theorem step12 : Statement .step12 := rfl
theorem step13 : Statement .step13 := rfl
theorem step14 : Statement .step14 := rfl
theorem step15 : Statement .step15 := rfl
theorem step16 : Statement .step16 := rfl
theorem step17 : Statement .step17 := rfl
theorem step18 : Statement .step18 := rfl
theorem step19 : Statement .step19 := rfl
theorem step20 : Statement .step20 := rfl
theorem step21 : Statement .step21 := rfl
theorem step22 : Statement .step22 := rfl
theorem step23 : Statement .step23 := rfl
theorem step24 : Statement .step24 := rfl
theorem step25 : Statement .step25 := rfl
theorem step26 : Statement .step26 := rfl
theorem step27 : Statement .step27 := rfl
theorem step28 : Statement .step28 := rfl
theorem step29 : Statement .step29 := rfl
theorem step30 : Statement .step30 := rfl
theorem step31 : Statement .step31 := rfl
theorem step32 : Statement .step32 := rfl
theorem step33 : Statement .step33 := rfl
theorem step34 : Statement .step34 := rfl
theorem step35 : Statement .step35 := rfl
theorem step36 : Statement .step36 := rfl
theorem step37 : Statement .step37 := rfl
theorem step38 : Statement .step38 := rfl
theorem step39 : Statement .step39 := rfl
theorem step40 : Statement .step40 := rfl
theorem step41 : Statement .step41 := rfl
theorem step42 : Statement .step42 := rfl
theorem step43 : Statement .step43 := rfl
theorem step44 : Statement .step44 := rfl
theorem step45 : Statement .step45 := rfl
theorem step46 : Statement .step46 := rfl
theorem step47 : Statement .step47 := rfl
theorem step48 : Statement .step48 := rfl
theorem step49 : Statement .step49 := rfl
theorem step50 : Statement .step50 := rfl
theorem step51 : Statement .step51 := rfl
theorem step52 : Statement .step52 := rfl
theorem step53 : Statement .step53 := rfl
theorem step54 : Statement .step54 := rfl
theorem step55 : Statement .step55 := rfl
theorem step56 : Statement .step56 := rfl
theorem step57 : Statement .step57 := rfl
theorem step58 : Statement .step58 := rfl
theorem step59 : Statement .step59 := rfl
theorem step60 : Statement .step60 := rfl
theorem step61 : Statement .step61 := rfl
theorem step62 : Statement .step62 := rfl
theorem step63 : Statement .step63 := rfl

end Sys2Proof.Laws.OpcodeRow
end

