-- ==== Sys2Proof/Laws/Safety.lean ====
section
/-! SUPPORT. The terms of Safety.lean said once: the position of the machine in each of its four situations, the fresh
state's invariant, and the begun append. -/

namespace Sys2Proof.Machine

/-- The position at a command boundary. -/
theorem State.positionOk_boundary {s : State} (hf : s.finishing = none) (hr : s.running = none) :
    s.positionOk = true ↔ s.plen.toNat = s.messageOffset := by
  unfold State.positionOk; rw [hf, hr]; exact decide_eq_true_iff

/-- The position inside a Transform outside FINAL. -/
theorem State.positionOk_running {s : State} {r : Running} (hf : s.finishing = none) (hr : s.running = some r) :
    s.positionOk = true ↔ s.plen = 63#6 ∧ s.messageOffset = 0 := by
  unfold State.positionOk; rw [hf, hr]; exact decide_eq_true_iff

/-- The position inside FINAL between Transforms. -/
theorem State.positionOk_finishing {s : State} {f : Finishing} (hf : s.finishing = some f) (hr : s.running = none) :
    s.positionOk = true ↔ f.len = s.count ∧ f.padn = padLength (BitVec.ofNat 6 s.messageOffset) ∧
      f.pos ≤ f.padn + 8 ∧ s.plen.toNat = (s.messageOffset + f.pos) % 64 := by
  unfold State.positionOk; rw [hf, hr]; exact decide_eq_true_iff

/-- The position inside a Transform inside FINAL. -/
theorem State.positionOk_finishing_running {s : State} {f : Finishing} {r : Running} (hf : s.finishing = some f)
    (hr : s.running = some r) :
    s.positionOk = true ↔ f.len = s.count ∧ f.padn = padLength (BitVec.ofNat 6 s.messageOffset) ∧
      f.pos ≤ f.padn + 8 ∧ s.plen = 63#6 ∧ (s.messageOffset + f.pos) % 64 = 0 := by
  unfold State.positionOk; rw [hf, hr]; exact decide_eq_true_iff

/-- A state in the initial condition at a boundary, with BUF in canonical form, satisfies the invariant. -/
theorem State.inv_of_initial {s : State} (hw : s.buf.wf = true) (hc : s.count = 0#64) (hp : s.plen = 0#6)
    (hr : s.running = none) (hf : s.finishing = none) : s.Inv := by
  refine ⟨hw, by simp [hc], (State.positionOk_boundary hf hr).mpr ?_⟩
  simp [State.messageOffset, hc, hp]

/-- What the begun append leaves in the fields it touches or not, whether or not it completes the block. -/
theorem State.beginAppend_spec (s : State) (x : Byte) :
    (s.beginAppend x).buf = s.buf.write s.plen.toNat x ∧ (s.beginAppend x).acc = s.acc ∧
      (s.beginAppend x).count = s.count ∧ (s.beginAppend x).finishing = s.finishing ∧
      (s.beginAppend x).port = s.port ∧ (s.beginAppend x).draws = s.draws ∧
      (s.plen = 63#6 → (s.beginAppend x).plen = s.plen ∧ (s.beginAppend x).running = some ⟨0#6, s.acc⟩) ∧
      (s.plen ≠ 63#6 → (s.beginAppend x).plen = s.plen + 1#6 ∧ (s.beginAppend x).running = s.running) := by
  unfold State.beginAppend
  by_cases h : s.plen = 63#6 <;> simp [h]

/-- Without a reset presented, the next action is the block's own work. -/
theorem nextAction_of_noReset {s : State} (h : s.NoResetNext) : nextAction s = nextWork s := by
  unfold nextAction
  split
  · rename_i w rest hp; exact absurd hp (h w rest)
  · rfl
  · rfl

/-- Runs of steps compose. -/
theorem stepsFrom_add {m : Nat} (n : Nat) {s t : State} (h : stepsFrom m s = .next t) :
    stepsFrom (m + n) s = stepsFrom n t := by
  induction m generalizing s with
  | zero => simp only [stepsFrom, Host.Outcome.next.injEq] at h; subst h; simp
  | succ m ih =>
    rw [Nat.add_right_comm, stepsFrom]
    rw [stepsFrom] at h
    split at h
    · exact ih h
    · cases h
    · cases h

end Sys2Proof.Machine
end

