-- ==== Sys2Proof/Tests/Slice0.lean ====
section
/-! SUPPORT. The model's own tests. Each expected result is a word, a vector or a worked example of the spec, named in
the theorem's comment; none was computed by this model. At the end, one named witness for the hypotheses of every
statement that has some, at the boundaries of its clauses. -/

namespace Sys2Proof.Tests

open Sys2Proof Sys2Proof.Machine

/-! ### Helpers -/

/-- The state a step or an instruction answers, if it answers one. -/
def nextOf : Host.Outcome State Fault Refusal → Option State
  | .next t => some t
  | .fault _ => none
  | .refused _ => none

/-- `n` pending bytes `v` from offset 0 up, as the canonical memory. -/
def filled (n : Nat) (v : Byte) : Memory := (List.range n).map fun i => (i, v)

/-- The block just reset, with a pending length, the counter that goes with it, and its pending bytes. -/
def pendingState (n : Nat) (v : Byte) : State :=
  ((State.reset.setBuf (filled n v)).setCount (BitVec.ofNat 64 (8 * n))).setPlen (BitVec.ofNat 6 n)

/-- After the DATA beats of "abc" (95_test_vectors P1, row 4). -/
def abcState : State :=
  ((State.reset.setBuf [(0, 0x61#8), (1, 0x62#8), (2, 0x63#8)]).setCount 24#64).setPlen 3#6

/-- The one padded block of "abc" in BUF (41_transform R106). -/
def abcBuf : Memory := [(0, 0x61#8), (1, 0x62#8), (2, 0x63#8), (3, 0x80#8), (56, 0x18#8)]

/-- Inside the Transform of the padded "abc" block, the registers and the round index as given. -/
def abcRound (i : Index) (w : Quad) : State := (State.reset.setBuf abcBuf).setRunning (some ⟨i, w⟩)

/-- The working registers after the micro-operation the machine's next step runs. -/
def regsAfterStep (i : Index) (w : Quad) : Option (Option Running) := (nextOf (step (abcRound i w))).map State.running

/-- The characters of the HEX view, as numbers. -/
def hexText (t : State) : List Nat := (hexView t.digest).map BitVec.toNat

/-- The ASCII codes of a text. -/
def ascii (x : String) : List Nat := x.toList.map Char.toNat

/-! ### Ill-formed terms are refused -/

theorem test_beat_of_eleven_bits_is_ill_formed : (RawWord.mk .beat 0x400).wellFormed = false := by decide
theorem test_beat_of_ten_bits_is_well_formed : (RawWord.mk .beat 0x3ff).wellFormed = true := by decide
theorem test_round_index_64_is_ill_formed : (RawWord.mk .round 0x40).wellFormed = false := by decide
theorem test_round_index_63_is_well_formed : (RawWord.mk .round 0x3f).wellFormed = true := by decide
/-- Entry 0 with the mixing function of pass 1. -/
theorem test_entry_with_wrong_function : (RoundEntry.mk .g 0#4 7#5 0xd76aa478#32).selOk 0 = false := by decide
/-- Entry 1 with the word of entry 0. -/
theorem test_entry_with_wrong_word : (RoundEntry.mk .f 0#4 12#5 0xe8c7b756#32).kOk 1 = false := by decide
/-- Entry 2 with the rotation of entry 1. -/
theorem test_entry_with_wrong_rotation : (RoundEntry.mk .f 2#4 12#5 0x242070db#32).sOk 2 = false := by decide
theorem test_entry_beyond_the_table : (RoundEntry.mk .i 0#4 6#5 0#32).wellFormed 64 = false := by decide
theorem test_entry_43_is_well_formed : (RoundEntry.mk .h 6#4 23#5 0x04881d05#32).wellFormed 43 = true := by decide

/-! ### Decoding, from words written out bit by bit (30_encoding R62 to R64, R67, R73; opcode_table.json) -/

/-- cmd 00, data 10100101. -/
theorem test_decode_idle : decodeTableWord 16 0b0010100101 = some (.idle 0xa5#8) := by decide
/-- cmd 01, data 01100001: DATA 'a', the beat 161 of R73. -/
theorem test_decode_data : decodeTableWord 16 0b0101100001 = some (.data 0x61#8) := by decide
/-- cmd 10, data 00000000: the beat 200. -/
theorem test_decode_final : decodeTableWord 16 0b1000000000 = some (.final 0x00#8) := by decide
/-- cmd 11, data 11111111: the beat 3ff of P6. -/
theorem test_decode_init : decodeTableWord 16 0b1111111111 = some (.init 0xff#8) := by decide
theorem test_decode_step00 : decodeTableWord 8 0b000000 = some .step00 := by decide
theorem test_decode_step21 : decodeTableWord 8 0b010101 = some .step21 := by decide
theorem test_decode_step42 : decodeTableWord 8 0b101010 = some .step42 := by decide
theorem test_decode_step63 : decodeTableWord 8 0b111111 = some .step63 := by decide
theorem test_decode_beat_of_eleven_bits : decodeTableWord 16 0x400 = none := by decide
theorem test_decode_round_index_64 : decodeTableWord 8 0x40 = none := by decide
/-- Every row of pass 0 and of pass 3 by its `match` column. -/
theorem test_decode_rows_of_two_passes :
    (List.range 16).map (decodeTableWord 8) =
      [.step00, .step01, .step02, .step03, .step04, .step05, .step06, .step07, .step08, .step09, .step10, .step11,
       .step12, .step13, .step14, .step15].map some ∧
    (List.range 16).map (fun n => decodeTableWord 8 (0x30 + n)) =
      [.step48, .step49, .step50, .step51, .step52, .step53, .step54, .step55, .step56, .step57, .step58, .step59,
       .step60, .step61, .step62, .step63].map some := by decide
/-- Every row of pass 1 and of pass 2 by its `match` column. -/
theorem test_decode_rows_of_the_other_passes :
    (List.range 16).map (fun n => decodeTableWord 8 (0x10 + n)) =
      [.step16, .step17, .step18, .step19, .step20, .step21, .step22, .step23, .step24, .step25, .step26, .step27,
       .step28, .step29, .step30, .step31].map some ∧
    (List.range 16).map (fun n => decodeTableWord 8 (0x20 + n)) =
      [.step32, .step33, .step34, .step35, .step36, .step37, .step38, .step39, .step40, .step41, .step42, .step43,
       .step44, .step45, .step46, .step47].map some := by decide
/-- The beats of `UPDATE "message"`, 95_test_vectors P2 rows 1 to 7. -/
theorem test_present_message : present (update [0x6d#8, 0x65#8, 0x73#8, 0x73#8, 0x61#8, 0x67#8, 0x65#8]) =
    [0x16d#10, 0x165#10, 0x173#10, 0x173#10, 0x161#10, 0x167#10, 0x165#10].map .beat := by decide

/-! ### Datapath (95_test_vectors section 2) -/

theorem test_bitwise : not32 0x10325476#32 = 0xefcdab89#32 ∧ and32 0xefcdab89#32 0x98badcfe#32 = 0x88888888#32 ∧
    or32 0x88888888#32 0x10325476#32 = 0x98badcfe#32 ∧ xor32 0xefcdab89#32 0x98badcfe#32 = 0x77777777#32 := by decide
theorem test_sums : add32 0x67452301#32 0xefcdab89#32 = 0x5712ce8a#32 ∧ add32 0xffffffff#32 0xffffffff#32 = 0xfffffffe#32 ∧
    sum4 0x67452301#32 0x98badcfe#32 0x80636261#32 0xd76aa478#32 = 0x57ce06d8#32 ∧
    inc64 0xfffffffffffffff8#64 = 0#64 := by decide
theorem test_rotations : rotl32 0x12345678#32 7#5 = 0x1a2b3c09#32 ∧ rotl32 0x80000000#32 1#5 = 0x00000001#32 ∧
    rotl32 0x00000001#32 31#5 = 0x80000000#32 ∧ rotl32 0xdeadbeef#32 23#5 = 0x77ef56df#32 ∧
    rotl32 0xdeadbeef#32 0#5 = 0xdeadbeef#32 := by decide
theorem test_mixing_truth_tables : mix .f 0x0f0f0f0f#32 0x33333333#32 0x55555555#32 = 0x53535353#32 ∧
    mix .g 0x0f0f0f0f#32 0x33333333#32 0x55555555#32 = 0x27272727#32 ∧
    mix .h 0x0f0f0f0f#32 0x33333333#32 0x55555555#32 = 0x69696969#32 ∧
    mix .i 0x0f0f0f0f#32 0x33333333#32 0x55555555#32 = 0x9c9c9c9c#32 := by decide
theorem test_packing : unle32 0x61#8 0x62#8 0x63#8 0x80#8 = 0x80636261#32 ∧
    le32 0x98500190#32 = [0x90#8, 0x01#8, 0x50#8, 0x98#8] ∧
    le64 0x18#64 = [0x18#8, 0#8, 0#8, 0#8, 0#8, 0#8, 0#8, 0#8] := by decide
theorem test_hex_bytes : [hexByte 0xd4#8, hexByte 0x0a#8, hexByte 0xff#8].map (·.map BitVec.toNat) =
    [ascii "d4", ascii "0a", ascii "ff"] := by decide
/-- 95_test_vectors section 5.1. -/
theorem test_padding_lengths : [0#6, 1#6, 3#6, 14#6, 54#6, 55#6, 56#6, 57#6, 62#6, 63#6].map padLength =
    [56, 55, 53, 42, 2, 1, 64, 63, 58, 57] := by decide
/-- 41_transform R106: the words of the padded "abc" block. -/
theorem test_message_words : blockWord abcBuf.block 0#4 = 0x80636261#32 ∧ blockWord abcBuf.block 13#4 = 0#32 ∧
    blockWord abcBuf.block 14#4 = 0x18#32 ∧ blockWord abcBuf.block 15#4 = 0#32 := by decide +kernel

/-! ### Round micro-operations, one step each (worked examples of R109 to R112, trace R120) -/

theorem test_step00 : regsAfterStep 0#6 ⟨0x67452301#32, 0xefcdab89#32, 0x98badcfe#32, 0x10325476#32⟩ =
    some (some ⟨1#6, 0x10325476#32, 0xd6d117b4#32, 0xefcdab89#32, 0x98badcfe#32⟩) := by decide +kernel
theorem test_step01 : regsAfterStep 1#6 ⟨0x10325476#32, 0xd6d117b4#32, 0xefcdab89#32, 0x98badcfe#32⟩ =
    some (some ⟨2#6, 0x98badcfe#32, 0x344a8432#32, 0xd6d117b4#32, 0xefcdab89#32⟩) := by decide +kernel
theorem test_step02 : regsAfterStep 2#6 ⟨0x98badcfe#32, 0x344a8432#32, 0xd6d117b4#32, 0xefcdab89#32⟩ =
    some (some ⟨3#6, 0xefcdab89#32, 0x2f6fbd72#32, 0x344a8432#32, 0xd6d117b4#32⟩) := by decide +kernel
theorem test_step03 : regsAfterStep 3#6 ⟨0xefcdab89#32, 0x2f6fbd72#32, 0x344a8432#32, 0xd6d117b4#32⟩ =
    some (some ⟨4#6, 0xd6d117b4#32, 0x7ad956f2#32, 0x2f6fbd72#32, 0x344a8432#32⟩) := by decide +kernel
theorem test_step04 : regsAfterStep 4#6 ⟨0xd6d117b4#32, 0x7ad956f2#32, 0x2f6fbd72#32, 0x344a8432#32⟩ =
    some (some ⟨5#6, 0x344a8432#32, 0xc73741ef#32, 0x7ad956f2#32, 0x2f6fbd72#32⟩) := by decide +kernel
theorem test_step16 : regsAfterStep 16#6 ⟨0xdda9b9a6#32, 0x72aff2e0#32, 0xe396856b#32, 0xa1051895#32⟩ =
    some (some ⟨17#6, 0xa1051895#32, 0x3e9e9126#32, 0x72aff2e0#32, 0xe396856b#32⟩) := by decide +kernel
theorem test_step17 : regsAfterStep 17#6 ⟨0xa1051895#32, 0x3e9e9126#32, 0x72aff2e0#32, 0xe396856b#32⟩ =
    some (some ⟨18#6, 0xe396856b#32, 0x4a1d804e#32, 0x3e9e9126#32, 0x72aff2e0#32⟩) := by decide +kernel
theorem test_step32 : regsAfterStep 32#6 ⟨0x790a77fb#32, 0x726342d3#32, 0xa62884aa#32, 0x9f47e4f8#32⟩ =
    some (some ⟨33#6, 0x9f47e4f8#32, 0xb3707ebf#32, 0x726342d3#32, 0xa62884aa#32⟩) := by decide +kernel
theorem test_step33 : regsAfterStep 33#6 ⟨0x9f47e4f8#32, 0xb3707ebf#32, 0x726342d3#32, 0xa62884aa#32⟩ =
    some (some ⟨34#6, 0xa62884aa#32, 0x60127b2e#32, 0xb3707ebf#32, 0x726342d3#32⟩) := by decide +kernel
theorem test_step48 : regsAfterStep 48#6 ⟨0x7f2e507b#32, 0x7beb9700#32, 0x8fae6399#32, 0x99d9679d#32⟩ =
    some (some ⟨49#6, 0x99d9679d#32, 0x7b201df8#32, 0x7beb9700#32, 0x8fae6399#32⟩) := by decide +kernel
theorem test_step49 : regsAfterStep 49#6 ⟨0x99d9679d#32, 0x7b201df8#32, 0x7beb9700#32, 0x8fae6399#32⟩ =
    some (some ⟨50#6, 0x8fae6399#32, 0xf4e8e96e#32, 0x7b201df8#32, 0x7beb9700#32⟩) := by decide +kernel
/-- The last step and the feed-forward that follows it (trace R120): the Transform ends, PLEN is 0. -/
theorem test_step63 : (nextOf (step (abcRound 63#6 ⟨0x7327d604#32, 0xe484b9d8#32, 0x624d8cb2#32, 0x310ade8f#32⟩))).map
      (fun t => (t.running, t.acc, t.plen)) =
    some (none, ⟨0x98500190#32, 0xb04fd23c#32, 0x7d3f96d6#32, 0x727fe128#32⟩, 0#6) := by decide +kernel
/-- Where no Transform is in progress a micro-operation has no register to act on. -/
theorem test_step_outside_a_transform : nextOf (exec .step00 abcState) = some abcState := by decide

/-! ### Transform (95_test_vectors section 3) -/

/-- T1: the padded empty message. -/
theorem test_transform_T1 : transform Config.initAcc (Memory.block [(0, 0x80#8)]) =
    ⟨0xd98c1dd4#32, 0x04b2008f#32, 0x980980e9#32, 0x7e42f8ec#32⟩ := by decide +kernel
/-- T2: the padded "abc". -/
theorem test_transform_T2 : transform Config.initAcc abcBuf.block =
    ⟨0x98500190#32, 0xb04fd23c#32, 0x7d3f96d6#32, 0x727fe128#32⟩ := by decide +kernel
/-- T10: all ones, a state no run reaches. -/
theorem test_transform_T10 : transform ⟨0xffffffff#32, 0xffffffff#32, 0xffffffff#32, 0xffffffff#32⟩
      (Memory.block (filled 64 0xff#8)) = ⟨0x6cba9129#32, 0x29ffd12a#32, 0x8b9bb7d3#32, 0xa9a0a3c1#32⟩ := by
  decide +kernel

/-! ### Commands, one beat each (95_test_vectors sections 4 to 6) -/

/-- U1: `DATA 0x61` in INITIAL, the beat 161 run by the next step after reset. -/
theorem test_data_first_byte : (nextOf (step (State.reset.withFetchWord 16 0x161))).map
    (fun t => (t.buf, t.count, t.plen, t.acc)) = some ([(0, 0x61#8)], 8#64, 1#6, Config.initAcc) := by decide
/-- U8: the byte at offset 63 runs Transform, and COUNT wraps to 0. -/
theorem test_data_completes_block_and_count_wraps :
    (nextOf (exec (.data 0x22#8) ((pendingState 63 0x11#8).setCount 0xfffffffffffffff8#64))).map
      (fun t => (t.acc, t.count, t.plen)) =
    some (⟨0x9fb153d8#32, 0x29932a29#32, 0x59930e2c#32, 0xd4e6b0ff#32⟩, 0#64, 0#6) := by decide +kernel
/-- P1, beat 5. -/
theorem test_final_abc : (nextOf (exec (.final 0x00#8) abcState)).map
      (fun t => ((t.digest, t.dvalid), hexText t, (t.acc, t.count, t.plen))) =
    some ((0x727fe1287d3f96d6b04fd23c98500190#128, true), ascii "900150983cd24fb0d6963f7d28e17f72",
      (Config.initAcc, 0#64, 0#6)) := by decide +kernel
/-- M11: 56 pending bytes, two Transforms inside FINAL. -/
theorem test_final_two_blocks : (nextOf (exec (.final 0xff#8) (pendingState 56 0x41#8))).map hexText =
    some (ascii "a2f3e2024931bd470555002aa5ccc010") := by decide +kernel
/-- R126: INIT discards a message in progress; DIGEST and DVALID are unchanged. -/
theorem test_init : (nextOf (exec (.init 0xff#8)
      (((abcState.setAcc ⟨0x98500190#32, 0#32, 0#32, 0#32⟩).setDigest 5#128).raiseDvalid))).map
      (fun t => (t.acc, t.count, t.plen, t.digest, t.dvalid)) =
    some (⟨0x67452301#32, 0xefcdab89#32, 0x98badcfe#32, 0x10325476#32⟩, 0#64, 0#6, 5#128, true) := by decide
/-- U6. -/
theorem test_idle : nextOf (exec (.idle 0xa5#8) abcState) = some abcState := by decide
/-- S1 through the port: the beat 200 run by the next step after reset. -/
theorem test_empty_digest : (nextOf (step (State.reset.withFetchWord 16 0x200))).map hexText =
    some (ascii "d41d8cd98f00b204e9800998ecf8427e") := by decide +kernel

/-! ### Reset and the inputs -/

/-- R178: a reset abandons a Transform in progress, and the beat that comes with it is not performed. -/
theorem test_reset_wins : (nextOf (step ((abcRound 5#6 ⟨1#32, 2#32, 3#32, 4#32⟩).setPort [.reset (some 0x161#10), .beat 0x200#10]))).map
      (fun t => ((t.acc, t.count, t.plen), t.dvalid, (t.running, t.port))) =
    some ((Config.initAcc, 0#64, 0#6), false, (none, [.beat 0x200#10])) := by decide
/-- R191: after reset the block waits for its first beat. -/
theorem test_reset_waits : nextOf (step State.reset) = some State.reset := by decide

/-! ### Witnesses: for every statement with hypotheses, a state and operands that meet all of them -/

/-- BeatSelectsOneCommandRow: one beat for each of the four rows. -/
theorem witness_beat_rows : 0x0a5#10 &&& 0x300#10 = 0x000#10 ∧ 0x161#10 &&& 0x300#10 = 0x100#10 ∧
    0x2ff#10 &&& 0x300#10 = 0x200#10 ∧ 0x3ff#10 &&& 0x300#10 = 0x300#10 := by decide
/-- NumbersThatAreNoWordAreRefused: the greatest number that fits and the least that does not, for both formats. -/
theorem witness_word_limits : 1023 < 1024 ∧ 1024 ≤ 1024 ∧ 63 < 64 ∧ 64 ≤ 64 ∧ 0 < 64 := by decide
/-- StepPerformsThePresentedBeat: at a boundary with the beat 161 presented first. -/
theorem witness_presented_beat : (abcState.setPort [.beat 0x161#10, .beat 0x200#10]).AtBoundary ∧
    (abcState.setPort [.beat 0x161#10, .beat 0x200#10]).port = .beat 0x161#10 :: [.beat 0x200#10] := by decide
/-- StepRunsTheRoundOperationOfTheIndex, RoundOperationIsTheGenericStep and the four pass statements: a Transform in
progress at indices 0, 62 and 63, no reset presented. -/
theorem witness_transform_in_progress (i : Index) : (abcRound i Config.initAcc).running = some ⟨i, Config.initAcc⟩ ∧
    (abcRound i Config.initAcc).NoResetNext := ⟨rfl, fun _ _ h => nomatch h⟩
theorem witness_index_clauses : (62#6 : Index) ≠ 63#6 ∧ (63#6 : Index) = 63#6 := by decide
/-- RoundOperationOutsideATransformDoesNothing: no Transform in progress. -/
theorem witness_no_transform : abcState.running = none := rfl
/-- BlockWaitsWhileNothingIsPresented. -/
theorem witness_waiting : abcState.AtBoundary ∧ abcState.port = [] := by decide
/-- ResetInputWinsOverBeatAndCommand: inside a command with a beat beside the reset, and at a boundary without one. -/
theorem witness_reset_presented :
    ((abcRound 5#6 Config.initAcc).setPort [.reset (some 0x161#10)]).port = .reset (some 0x161#10) :: [] ∧
    (abcState.setPort [.reset none]).port = .reset none :: [] := by decide
/-- InitEstablishesTheInitialCondition, FinalOfNothingIsTheEmptyDigest: the initial condition with stale bytes, a
DIGEST and DVALID of an earlier message. -/
theorem witness_initial : (((State.reset.setBuf abcBuf).setDigest 7#128).raiseDvalid).IsInitial := by decide
/-- DataAppendsOneMessageByte, AppendIsDataWithoutCount: both clauses, at PLEN 63, 62 and 0. -/
theorem witness_pending_lengths : (pendingState 63 0x11#8).plen.toNat = 63 ∧ (pendingState 62 0x11#8).plen.toNat ≠ 63 ∧
    (pendingState 0 0x11#8).plen.toNat ≠ 63 := by decide
/-- CounterValueNeverInfluencesData: the greatest counter value that a run reaches. -/
theorem witness_counter : ((pendingState 63 0x11#8).setCount 0xfffffffffffffff8#64).count = 0xfffffffffffffff8#64 := rfl
/-- FinalAppendsMarkerZerosAndLength: bytes at the limits of its three clauses, for p = 3 (padn = 53) and for p = 55
(padn = 1, no zeros). -/
theorem witness_padding_bytes : (finalBytes 24#64 (padLength 3#6))[0]? = some 0x80#8 ∧
    (finalBytes 24#64 (padLength 3#6))[1]? = some 0x00#8 ∧ (finalBytes 24#64 (padLength 3#6))[52]? = some 0x00#8 ∧
    (finalBytes 24#64 (padLength 3#6))[53]? = some 0x18#8 ∧ (finalBytes 24#64 (padLength 3#6))[60]? = some 0x00#8 ∧
    (finalBytes 440#64 (padLength 55#6))[1]? = some 0xb8#8 := by decide
/-- PaddingLengthFormula and the two FINAL statements by pending length: 55 and 56 meet, 0 and 63 end the ranges. -/
theorem witness_final_ranges : (pendingState 0 0x41#8).plen.toNat ≤ 55 ∧ (pendingState 55 0x41#8).plen.toNat ≤ 55 ∧
    56 ≤ (pendingState 56 0x41#8).plen.toNat ∧ 56 ≤ (pendingState 63 0x41#8).plen.toNat := by decide
/-- FinalLeavesAFreshBlock. -/
theorem witness_boundary : abcState.AtBoundary := by decide
/-- FinalResultDependsOnLiveStateOnly, NothingReadsUnspecifiedValues: two states that differ in a stale cell, in DIGEST
and in DVALID. -/
theorem witness_same_but_unspecified :
    SameButUnspecified abcState (((abcState.setBuf [(0, 0x61#8), (1, 0x62#8), (2, 0x63#8), (3, 0xee#8)]).setDigest 9#128).raiseDvalid) ∧
    abcState ≠ ((abcState.setBuf [(0, 0x61#8), (1, 0x62#8), (2, 0x63#8), (3, 0xee#8)]).setDigest 9#128).raiseDvalid := by
  refine ⟨⟨rfl, rfl, rfl, rfl, rfl, rfl, rfl, ?_⟩, by decide⟩
  have live : abcState.liveCells = 3 := rfl
  rw [live]
  decide
/-- TransformIsSixtyFourRoundSteps, DataIsItsFinerGrainedSteps, FinalIsItsFinerGrainedSteps: a boundary with a beat
presented, and no reset. -/
theorem witness_boundary_without_reset (n : Nat) : ((pendingState n 0x41#8).setPort [.beat 0x161#10]).AtBoundary ∧
    ((pendingState n 0x41#8).setPort [.beat 0x161#10]).NoResetNext := by
  refine ⟨⟨rfl, rfl⟩, fun w rest h => ?_⟩
  cases h
/-- FeedForwardAddsTheOldAccumulators: the registers after step 63 of the trace R120. -/
theorem witness_registers_after_the_last_step : (⟨0x310ade8f#32, 0xc08226b3#32, 0xe484b9d8#32, 0x624d8cb2#32⟩ : Quad) =
    runRounds roundTable abcBuf.block Config.initAcc := by decide +kernel
/-- BitwiseOperationsBitByBit, MixingFunctionsHaveTheirTruthTables, RotationMovesEveryBitAndLosesNone: the limits of the
bit numbers and of the amounts. -/
theorem witness_bit_numbers : 0 < 32 ∧ 31 < 32 ∧ 1 ≤ (1#5 : BitVec 5).toNat ∧ 1 ≤ (31#5 : BitVec 5).toNat ∧
    (0#5 : BitVec 5) = 0#5 := by decide
/-- LittleEndianPackingIsItsOwnInverse, HexViewIsThirtyTwoCharacters, MessageWordsAreAViewOfTheBuffer,
FinalBuildsOneBlockBelow56 and FinalBuildsTwoBlocksFrom56: the limits of the byte numbers. -/
theorem witness_byte_numbers : 0 < 8 ∧ 7 < 8 ∧ 0 < 16 ∧ 15 < 16 ∧ 0 < 64 ∧ 63 < 64 := by decide
/-- HexDigitsAreLowercaseAscii: 9 and 10 meet. -/
theorem witness_nibbles : (9#4 : BitVec 4).toNat ≤ 9 ∧ ¬(10#4 : BitVec 4).toNat ≤ 9 := by decide
/-- HexViewIsThirtyTwoCharacters: characters of a view, a digit and a letter, and the last place. -/
theorem witness_hex_characters : 0x61#8 ∈ hexView 0xa0#128 ∧ 0x30#8 ∈ hexView 0xa0#128 ∧ (hexView 0xa0#128)[0]? = some 0x61#8 ∧
    (hexView 0xa0#128)[31]? = some 0x30#8 := by decide +kernel
/-- DigestRegisterPacksTheAccumulators: the first and the last digest byte of "abc". -/
theorem witness_digest_bytes : (serialise ⟨0x98500190#32, 0xb04fd23c#32, 0x7d3f96d6#32, 0x727fe128#32⟩)[0]? = some 0x90#8 ∧
    (serialise ⟨0x98500190#32, 0xb04fd23c#32, 0x7d3f96d6#32, 0x727fe128#32⟩)[15]? = some 0x72#8 := by decide
/-- EveryStepKeepsTheInvariant: a state at a boundary with a pending message and a beat presented, and what it steps to. -/
theorem witness_invariant_step : (abcState.setPort [.beat 0x161#10]).Inv ∧
    ∃ t, step (abcState.setPort [.beat 0x161#10]) = .next t := ⟨by decide, _, rfl⟩
/-- EveryStepKeepsTheInvariant inside a DATA and inside a FINAL. -/
theorem witness_invariant_inside_commands :
    ((((pendingState 63 0x11#8).setCount 512#64).setRunning (some ⟨17#6, Config.initAcc⟩))).Inv ∧
    (abcState.setFinishing (some ⟨24#64, 53, 0⟩)).Inv := by decide +kernel
/-- OnlyFinalWritesTheOutputs: an instruction that is no FINAL; and a step that clears DVALID. -/
theorem witness_not_final : ∀ d, Instr.data 0x61#8 ≠ .final d := fun _ h => nomatch h
theorem witness_dvalid_cleared : ∃ t, step (State.reset.raiseDvalid.setPort [.reset none]) = .next t ∧
    (State.reset.raiseDvalid.setPort [.reset none]).dvalid = true ∧ t.dvalid = false := ⟨_, rfl, rfl, rfl⟩
/-- AccumulatorsChangeOnlyAtBlockEnds: an instruction that changes the accumulators, one that changes COUNT and PLEN, one
that changes a byte of BUF. -/
theorem witness_changes : (∃ t, exec (.init 0x00#8) (abcState.setAcc ⟨0#32, 0#32, 0#32, 0#32⟩) = .next t ∧
      t.acc ≠ (abcState.setAcc ⟨0#32, 0#32, 0#32, 0#32⟩).acc) ∧
    (∃ t, exec (.data 0x61#8) abcState = .next t ∧ (t.count ≠ abcState.count ∨ t.plen ≠ abcState.plen) ∧
      ∃ a, t.buf.read a ≠ abcState.buf.read a) :=
  ⟨⟨_, rfl, by decide⟩, _, rfl, by decide, 3, by decide⟩
/-- AccumulatorsChangeOnlyAtBlockEnds, a DATA at PLEN = 63 (95_test_vectors U3): the accumulators change, to the value T7. -/
theorem witness_data_changes_accumulators : (pendingState 63 0x41#8).plen = 63#6 ∧
    ∃ t, exec (.data 0x41#8) (pendingState 63 0x41#8) = .next t ∧ t.acc ≠ (pendingState 63 0x41#8).acc ∧
      t.acc = ⟨0x18e717b2#32, 0x5ffe635a#32, 0xa6e63f64#32, 0x59bf01d4#32⟩ :=
  ⟨by decide, _, rfl, by decide +kernel, by decide +kernel⟩
/-- MessageDigestClosedForm: the block after reset. -/
theorem witness_ready_for_a_message : State.reset.IsInitial ∧ State.reset.AtBoundary := by decide
/-- StreamFormAgreesAndNeverHidesAFault: a stream that ends, one that breaks, and a path that cannot be opened. -/
theorem witness_streams : streamFailure [.bytes [0x61#8], .bytes [], .bytes [0x62#8, 0x63#8], .endOfData] = none ∧
    streamFailure [.bytes [0x61#8], .broke] = some .streamRead ∧ (HostFile.mk none none).binaryMode = none := by decide

end Sys2Proof.Tests
end

section
/-! PROOF. The state after reset: the fields whose values the spec states (R21, R28, R32, R33). -/

namespace Sys2Proof.Config

/-- The initial accumulators as the four literals of R21. -/
theorem initAcc_eq : initAcc = ⟨0x67452301#32, 0xefcdab89#32, 0x98badcfe#32, 0x10325476#32⟩ := rfl

end Sys2Proof.Config

namespace Sys2Proof.Machine

@[simp] theorem State.reset_acc : State.reset.acc = Config.initAcc := rfl
@[simp] theorem State.reset_count : State.reset.count = 0#64 := rfl
@[simp] theorem State.reset_plen : State.reset.plen = 0#6 := rfl
@[simp] theorem State.reset_dvalid : State.reset.dvalid = false := rfl
@[simp] theorem State.reset_running : State.reset.running = none := rfl
@[simp] theorem State.reset_finishing : State.reset.finishing = none := rfl

/-- Settles O46: the accumulators are the initial ones, whose literals are those of R21, and every other field stated has
its own lemma. -/
theorem resetGivesTheStatedValues : Obligations.ResetGivesTheStatedValues := by
  unfold Obligations.ResetGivesTheStatedValues
  rw [State.reset_acc, Config.initAcc_eq]
  exact ⟨rfl, rfl, rfl, rfl, State.reset_count, State.reset_plen, State.reset_dvalid, State.reset_running,
    State.reset_finishing⟩

end Sys2Proof.Machine
end

section
/-! PROOF. The message words as a view of BUF (R41, R106), with the value of a little-endian word (R98). -/

namespace Sys2Proof.Machine

/-- Appending a byte below a vector is a base 2^8 digit step. -/
theorem toNat_append_byte {n : Nat} (x : BitVec n) (b : Byte) : (x ++ b).toNat = 2 ^ 8 * x.toNat + b.toNat := by
  rw [BitVec.toNat_append, ← Nat.shiftLeft_add_eq_or_of_lt b.isLt, Nat.shiftLeft_eq, Nat.mul_comm]

/-- UNLE32 in arithmetic (R98). -/
theorem unle32_toNat (b0 b1 b2 b3 : Byte) : (unle32 b0 b1 b2 b3).toNat =
    b0.toNat + 2 ^ 8 * b1.toNat + 2 ^ 16 * b2.toNat + 2 ^ 24 * b3.toNat := by
  unfold unle32
  rw [toNat_append_byte, toNat_append_byte, toNat_append_byte]
  omega

/-- MemRead(addr, 4) in arithmetic (R13, R98). -/
theorem Memory.readWord_toNat (m : Memory) (addr : Nat) : (m.readWord addr).toNat = (m.read addr).toNat +
    2 ^ 8 * (m.read (addr + 1)).toNat + 2 ^ 16 * (m.read (addr + 2)).toNat + 2 ^ 24 * (m.read (addr + 3)).toNat :=
  unle32_toNat _ _ _ _

/-- Settles O45: word k of the block is MemRead(4k, 4), whose value is the little-endian sum of its four cells. -/
theorem messageWordsAreAViewOfTheBuffer : Obligations.MessageWordsAreAViewOfTheBuffer := by
  unfold Obligations.MessageWordsAreAViewOfTheBuffer
  refine fun m => ⟨m.block_getElem, fun k => ?_⟩
  rw [blockWord_block, Memory.readWord_toNat]

end Sys2Proof.Machine
end

section
/-! PROOF. DIGEST and the HEX view as little-endian registers (R70, R71, R147): a byte sequence packed byte n at bits
8n+7:8n gives each byte back at its place. -/

namespace Sys2Proof.Machine

/-! ### Packing a byte sequence, least significant byte first -/

/-- A sequence of n bytes packs into 8n bits. -/
theorem leValue_lt (bs : List Byte) : leValue bs < 2 ^ (8 * bs.length) := by
  induction bs with
  | nil => simp [leValue]
  | cons b bs ih =>
    have hb := b.isLt
    rw [leValue, List.length_cons, Nat.mul_succ, Nat.pow_add]
    omega

/-- Byte n of the packed value is element n of the sequence. -/
theorem leValue_byte {bs : List Byte} {n : Nat} {x : Byte} (h : bs[n]? = some x) :
    leValue bs / 2 ^ (8 * n) % 2 ^ 8 = x.toNat := by
  induction bs generalizing n with
  | nil => simp at h
  | cons b bs ih =>
    have hb := b.isLt
    cases n with
    | zero =>
      obtain rfl : b = x := by simpa using h
      simp only [leValue]
      omega
    | succ n =>
      have hdrop : (b.toNat + 256 * leValue bs) / 2 ^ 8 = leValue bs := by omega
      rw [leValue, Nat.mul_succ, Nat.add_comm (8 * n), Nat.pow_add, ← Nat.div_div_eq_div_mul, hdrop]
      exact ih (by simpa using h)

/-- A register wide enough for the whole sequence holds byte n at bits 8n+7:8n. -/
theorem extractLsb'_ofNat_leValue {w n : Nat} {bs : List Byte} {x : Byte} (hw : 8 * bs.length ≤ w)
    (h : bs[n]? = some x) : (BitVec.ofNat w (leValue bs)).extractLsb' (8 * n) 8 = x := by
  have hlt : leValue bs < 2 ^ w := (leValue_lt bs).trans_le (Nat.pow_le_pow_right (by decide) hw)
  apply BitVec.eq_of_toNat_eq
  rw [BitVec.extractLsb'_toNat, BitVec.toNat_ofNat, Nat.mod_eq_of_lt hlt, Nat.shiftRight_eq_div_pow, leValue_byte h]

/-! ### DIGEST (R70, R147) -/

/-- The bytes of a word, packed below other bytes, are worth the word. -/
theorem leValue_le32_append (v : Word) (bs : List Byte) :
    leValue (le32 v ++ bs) = v.toNat + 2 ^ 32 * leValue bs := by
  have hv := v.isLt
  simp only [le32, List.cons_append, List.nil_append, leValue, BitVec.extractLsb'_toNat, Nat.shiftRight_eq_div_pow]
  omega

/-- DIGEST after serialisation holds the accumulators as four digits in base 2^32, A lowest. -/
theorem packDigest_serialise_toNat (q : Quad) : (packDigest (serialise q)).toNat =
    q.a.toNat + 2 ^ 32 * (q.b.toNat + 2 ^ 32 * (q.c.toNat + 2 ^ 32 * q.d.toNat)) := by
  have hlt : leValue (serialise q) < 2 ^ 128 := by simpa using leValue_lt (serialise q)
  have hd : leValue (le32 q.d) = q.d.toNat := by simpa [leValue] using leValue_le32_append q.d []
  rw [packDigest, BitVec.toNat_ofNat, Nat.mod_eq_of_lt hlt, serialise, List.append_assoc, List.append_assoc,
    leValue_le32_append, leValue_le32_append, leValue_le32_append, hd]

/-- Word j of DIGEST after serialisation is accumulator j. -/
theorem packDigest_serialise_words (q : Quad) :
    (packDigest (serialise q)).extractLsb' 0 32 = q.a ∧ (packDigest (serialise q)).extractLsb' 32 32 = q.b ∧
    (packDigest (serialise q)).extractLsb' 64 32 = q.c ∧ (packDigest (serialise q)).extractLsb' 96 32 = q.d := by
  have ha := q.a.isLt
  have hb := q.b.isLt
  have hc := q.c.isLt
  have hd := q.d.isLt
  refine ⟨?_, ?_, ?_, ?_⟩ <;>
    apply BitVec.eq_of_toNat_eq <;>
    rw [BitVec.extractLsb'_toNat, packDigest_serialise_toNat, Nat.shiftRight_eq_div_pow] <;>
    omega

/-- Settles O44: the words are the base 2^32 digits of the packed value, and every byte is found at its place by the
packing rule. -/
theorem digestRegisterPacksTheAccumulators : Obligations.DigestRegisterPacksTheAccumulators := by
  unfold Obligations.DigestRegisterPacksTheAccumulators
  intro q
  obtain ⟨ha, hb, hc, hd⟩ := packDigest_serialise_words q
  exact ⟨rfl, serialise_length q, rfl, rfl, rfl, rfl, ha, hb, hc, hd,
    fun n x h => extractLsb'_ofNat_leValue (by simp) h⟩

/-! ### The HEX view (R71) -/

@[simp] theorem renderHex_cons (b : Byte) (bs : List Byte) : renderHex (b :: bs) =
    hexNib (b.extractLsb' 4 4) :: hexNib (b.extractLsb' 0 4) :: renderHex bs := by
  simp [renderHex, hexByte]

/-- Characters 2n and 2n+1 of a rendering are the high and the low nibble of byte n. -/
theorem renderHex_getElem? {bs : List Byte} {n : Nat} {b : Byte} (h : bs[n]? = some b) :
    (renderHex bs)[2 * n]? = some (hexNib (b.extractLsb' 4 4)) ∧
      (renderHex bs)[2 * n + 1]? = some (hexNib (b.extractLsb' 0 4)) := by
  induction bs generalizing n with
  | nil => simp at h
  | cons c bs ih =>
    cases n with
    | zero =>
      obtain rfl : c = b := by simpa using h
      simp
    | succ n => simpa [Nat.mul_succ] using ih (n := n) (by simpa using h)

/-- Every character of a rendering is the digit of some nibble. -/
theorem exists_hexNib_of_mem_renderHex {bs : List Byte} {c : Byte} (h : c ∈ renderHex bs) : ∃ n, c = hexNib n := by
  obtain ⟨b, -, hc⟩ := List.mem_flatMap.mp h
  obtain rfl | rfl : c = hexNib (b.extractLsb' 4 4) ∨ c = hexNib (b.extractLsb' 0 4) := by simpa [hexByte] using hc
  · exact ⟨_, rfl⟩
  · exact ⟨_, rfl⟩

/-- The code of a digit (R103). -/
theorem hexNib_toNat (n : BitVec 4) :
    (hexNib n).toNat = if n.toNat ≤ 9 then 0x30 + n.toNat else 0x61 + n.toNat - 10 := by
  have hn := n.isLt
  unfold hexNib
  split
  · rw [if_pos (by omega)]
    bv_omega
  · rw [if_neg (by omega)]
    bv_omega

/-- A digit is one of the characters 0 to 9 and a to f. -/
theorem hexNib_range (n : BitVec 4) : (0x30 ≤ (hexNib n).toNat ∧ (hexNib n).toNat ≤ 0x39) ∨
    (0x61 ≤ (hexNib n).toNat ∧ (hexNib n).toNat ≤ 0x66) := by
  have hn := n.isLt
  rw [hexNib_toNat]
  split <;> omega

@[simp] theorem hexView_length (d : Digest) : (hexView d).length = 32 := by
  simp [hexView, renderHex_length, digestBytes]

/-- A nibble of digest byte n is the nibble of DIGEST that stands 8n bits higher. -/
theorem digestByte_nibble (d : Digest) (n : Nat) {k : Nat} (hk : k + 4 ≤ 8) :
    (digestByte d n).extractLsb' k 4 = d.extractLsb' (8 * n + k) 4 := by
  ext i hi
  have hki : k + i < 8 := by omega
  simp [digestByte, hki, Nat.add_assoc]

/-- Characters 2n and 2n+1 of HX are the nibbles of DIGEST at bits 8n+7:8n+4 and 8n+3:8n. -/
theorem hexView_getElem? (d : Digest) {n : Nat} (h : n < 16) :
    (hexView d)[2 * n]? = some (hexNib (d.extractLsb' (8 * n + 4) 4)) ∧
      (hexView d)[2 * n + 1]? = some (hexNib (d.extractLsb' (8 * n) 4)) := by
  have hbyte : (digestBytes d)[n]? = some (digestByte d n) := by simp [digestBytes, h]
  have hchars := renderHex_getElem? hbyte
  rwa [digestByte_nibble d n (by decide), digestByte_nibble d n (by decide)] at hchars

/-- Settles O43: the characters are the digits of the nibbles of DIGEST, and each is found at its place on the port by the
packing rule. -/
theorem hexViewIsThirtyTwoCharacters : Obligations.HexViewIsThirtyTwoCharacters := by
  unfold Obligations.HexViewIsThirtyTwoCharacters
  refine fun d => ⟨hexView_length d, fun c hc => ?_, fun n => hexView_getElem? d, hexNib_toNat,
    fun m c h => extractLsb'_ofNat_leValue (by simp) h⟩
  obtain ⟨n, rfl⟩ := exists_hexNib_of_mem_renderHex hc
  exact hexNib_range n

end Sys2Proof.Machine
end

section
/-! PROOF. The command rows of the beat format: the mask 0x300 of R76 and the command field of R62 select alike. -/

namespace Sys2Proof.Machine

/-- A beat is its command field above its data field (R62). -/
theorem mkBeat_beatCmd_beatData (w : Beat) : mkBeat (beatCmd w) (beatData w) = w :=
  BitVec.extractLsb'_append_extractLsb' (w := 2) (len := 8)

/-- A mask acts on the two fields of a beat separately. -/
theorem mkBeat_and_mkBeat (c c' : BitVec 2) (d d' : Byte) :
    mkBeat c d &&& mkBeat c' d' = mkBeat (c &&& c') (d &&& d') :=
  BitVec.and_append

/-- The mask 0x300 keeps the command field and clears the data field. -/
theorem beat_masked (w : Beat) : w &&& 0x300#10 = mkBeat (beatCmd w) 0#8 := by
  have hmask : 0x300#10 = mkBeat (BitVec.allOnes 2) 0#8 := by decide
  calc w &&& 0x300#10
      = mkBeat (beatCmd w) (beatData w) &&& mkBeat (BitVec.allOnes 2) 0#8 := by rw [mkBeat_beatCmd_beatData, hmask]
    _ = mkBeat (beatCmd w) 0#8 := by rw [mkBeat_and_mkBeat, BitVec.and_allOnes, BitVec.and_zero]

/-- A beat satisfies the row whose match value is k in the command field exactly when its command field is k (R76). -/
theorem beat_masked_eq_iff (w : Beat) (k : BitVec 2) : w &&& 0x300#10 = mkBeat k 0#8 ↔ beatCmd w = k := by
  rw [beat_masked]
  exact BitVec.append_left_inj 0#8

/-- There are four command fields. -/
theorem cmd_cases : ∀ c : BitVec 2, c = 0b00#2 ∨ c = 0b01#2 ∨ c = 0b10#2 ∨ c = 0b11#2 := by decide

/-- The decoder branches on the command field alone (R63). -/
theorem decodeBeat_idle {w : Beat} (h : beatCmd w = 0b00#2) : decodeBeat w = .idle (beatData w) := by
  simp [decodeBeat, h]
theorem decodeBeat_data {w : Beat} (h : beatCmd w = 0b01#2) : decodeBeat w = .data (beatData w) := by
  simp [decodeBeat, h]
theorem decodeBeat_final {w : Beat} (h : beatCmd w = 0b10#2) : decodeBeat w = .final (beatData w) := by
  simp [decodeBeat, h]
theorem decodeBeat_init {w : Beat} (h : beatCmd w = 0b11#2) : decodeBeat w = .init (beatData w) := by
  simp [decodeBeat, h]

/-- Settles O3: satisfying a row is having its command field, of which there are four, and the decoder branches on it. -/
theorem beatSelectsOneCommandRow : Obligations.BeatSelectsOneCommandRow := by
  unfold Obligations.BeatSelectsOneCommandRow
  intro w
  have h0 : w &&& 0x300#10 = 0x000#10 ↔ beatCmd w = 0b00#2 := beat_masked_eq_iff w 0b00#2
  have h1 : w &&& 0x300#10 = 0x100#10 ↔ beatCmd w = 0b01#2 := beat_masked_eq_iff w 0b01#2
  have h2 : w &&& 0x300#10 = 0x200#10 ↔ beatCmd w = 0b10#2 := beat_masked_eq_iff w 0b10#2
  have h3 : w &&& 0x300#10 = 0x300#10 ↔ beatCmd w = 0b11#2 := beat_masked_eq_iff w 0b11#2
  refine ⟨?_, h0, h1, h2, h3, fun h => decodeBeat_idle (h0.mp h), fun h => decodeBeat_data (h1.mp h),
    fun h => decodeBeat_final (h2.mp h), fun h => decodeBeat_init (h3.mp h)⟩
  rw [h0, h1, h2, h3]
  exact cmd_cases (beatCmd w)

end Sys2Proof.Machine
end

section
/-! PROOF. The datapath in bits and in arithmetic (40_datapath): what each operation gives at bit n, and as a natural
number. -/

namespace Sys2Proof.Machine

/-! ### Bitwise operations (R86 to R89) -/

theorem not32_toNat (x : Word) : (not32 x).toNat = 0xffffffff - x.toNat := BitVec.toNat_not

theorem getLsbD_not32 (x : Word) {n : Nat} (h : n < 32) : (not32 x).getLsbD n = !x.getLsbD n := by
  simp [not32, h]

@[simp] theorem getLsbD_and32 (x y : Word) (n : Nat) :
    (and32 x y).getLsbD n = (x.getLsbD n && y.getLsbD n) := BitVec.getLsbD_and

@[simp] theorem getLsbD_or32 (x y : Word) (n : Nat) :
    (or32 x y).getLsbD n = (x.getLsbD n || y.getLsbD n) := BitVec.getLsbD_or

@[simp] theorem getLsbD_xor32 (x y : Word) (n : Nat) :
    (xor32 x y).getLsbD n = (x.getLsbD n != y.getLsbD n) := BitVec.getLsbD_xor

/-- Settles O37: each operation has its bit lemma, and the complement is the difference from the greatest word. -/
theorem bitwiseOperationsBitByBit : Obligations.BitwiseOperationsBitByBit := by
  unfold Obligations.BitwiseOperationsBitByBit
  exact fun x y => ⟨not32_toNat x, fun n hn =>
    ⟨getLsbD_not32 x hn, getLsbD_and32 x y n, getLsbD_or32 x y n, getLsbD_xor32 x y n⟩⟩

/-! ### Additions (R90, R91, R101) -/

theorem add32_toNat (x y : Word) : (add32 x y).toNat = (x.toNat + y.toNat) % 2 ^ 32 := BitVec.toNat_add x y

theorem add32_comm (x y : Word) : add32 x y = add32 y x := BitVec.add_comm x y

theorem add32_assoc (x y z : Word) : add32 (add32 x y) z = add32 x (add32 y z) := BitVec.add_assoc x y z

/-- The carries lost on the way do not change the sum of four modulo 2^32. -/
theorem sum4_toNat (w x y z : Word) :
    (sum4 w x y z).toNat = (w.toNat + x.toNat + y.toNat + z.toNat) % 2 ^ 32 := by
  rw [sum4, add32_toNat, add32_toNat, add32_toNat]
  omega

theorem inc64_toNat (c : Count) : (inc64 c).toNat = (c.toNat + 8) % 2 ^ 64 := BitVec.toNat_add c 8#64

theorem repeat_inc64_toNat (n : Nat) (c : Count) : (Nat.repeat inc64 n c).toNat = (c.toNat + 8 * n) % 2 ^ 64 := by
  induction n with
  | zero => exact (Nat.mod_eq_of_lt c.isLt).symm
  | succ n ih => rw [Nat.repeat, inc64_toNat, ih, Nat.mod_add_mod, Nat.add_assoc, Nat.mul_succ]

/-- Settles O38: the sums as natural numbers, the laws of ADD32, and an induction over the number of INC64. -/
theorem additionsWrapAndDropTheCarry : Obligations.AdditionsWrapAndDropTheCarry := by
  unfold Obligations.AdditionsWrapAndDropTheCarry
  exact ⟨fun x y z => ⟨add32_toNat x y, add32_comm x y, add32_assoc x y z⟩, sum4_toNat, inc64_toNat,
    repeat_inc64_toNat⟩

/-! ### Rotation (R92) -/

/-- The two shifts of ROTL32 are the library's rotation, for every amount an operand can hold. -/
theorem rotl32_eq_rotateLeft (x : Word) (s : BitVec 5) : rotl32 x s = x.rotateLeft s.toNat :=
  (BitVec.rotateLeft_eq_rotateLeftAux_of_lt s.isLt).symm

theorem getLsbD_rotl32 (x : Word) (s : BitVec 5) {n : Nat} (hn : n < 32) :
    (rotl32 x s).getLsbD n = x.getLsbD ((n + 32 - s.toNat) % 32) := by
  have hs : s.toNat < 32 := s.isLt
  rw [rotl32_eq_rotateLeft, BitVec.getLsbD_rotateLeft, Nat.mod_eq_of_lt hs]
  by_cases h : n < s.toNat
  · have hindex : 32 - s.toNat + n = (n + 32 - s.toNat) % 32 := by omega
    simp [h, hindex]
  · have hindex : n - s.toNat = (n + 32 - s.toNat) % 32 := by omega
    simp [h, hn, hindex]

/-- The bits that stay below 2^32 become a multiple of 2^s, the bits rotated out at the top a number below 2^s: their
OR is their sum. -/
theorem rotl32_toNat (x : Word) (s : BitVec 5) :
    (rotl32 x s).toNat = x.toNat * 2 ^ s.toNat % 2 ^ 32 + x.toNat / 2 ^ (32 - s.toNat) := by
  have hsplit : 2 ^ 32 = 2 ^ (32 - s.toNat) * 2 ^ s.toNat := (Nat.pow_sub_mul_pow 2 s.isLt.le).symm
  have hhigh : x.toNat * 2 ^ s.toNat % 2 ^ 32 = (x.toNat % 2 ^ (32 - s.toNat)) <<< s.toNat := by
    rw [hsplit, Nat.mul_mod_mul_right, Nat.shiftLeft_eq]
  have hlow : x.toNat / 2 ^ (32 - s.toNat) < 2 ^ s.toNat := Nat.div_lt_of_lt_mul (hsplit ▸ x.isLt)
  rw [rotl32, BitVec.toNat_or, BitVec.toNat_shiftLeft, BitVec.toNat_ushiftRight, Nat.shiftLeft_eq,
    Nat.shiftRight_eq_div_pow, hhigh, Nat.shiftLeft_add_eq_or_of_lt hlow]

theorem rotl32_zero (x : Word) : rotl32 x 0#5 = x := by
  simp [rotl32, BitVec.ushiftRight_eq_zero]

/-- Settles O39: the bit form and the arithmetic form of the rotation, and the rotation by 0. -/
theorem rotationMovesEveryBitAndLosesNone : Obligations.RotationMovesEveryBitAndLosesNone := by
  unfold Obligations.RotationMovesEveryBitAndLosesNone
  exact fun x s => ⟨fun n => getLsbD_rotl32 x s, fun _ => rotl32_toNat x s, fun hs => hs ▸ rotl32_zero x⟩

/-! ### Mixing functions (R93 to R97) -/

theorem getLsbD_mixF (x y z : Word) {n : Nat} (hn : n < 32) :
    (mixF x y z).getLsbD n = if x.getLsbD n then y.getLsbD n else z.getLsbD n := by
  rw [mixF, getLsbD_or32, getLsbD_and32, getLsbD_and32, getLsbD_not32 x hn]
  cases x.getLsbD n <;> simp

theorem getLsbD_mixG (x y z : Word) {n : Nat} (hn : n < 32) :
    (mixG x y z).getLsbD n = if z.getLsbD n then x.getLsbD n else y.getLsbD n := by
  rw [mixG, getLsbD_or32, getLsbD_and32, getLsbD_and32, getLsbD_not32 z hn]
  cases z.getLsbD n <;> simp

theorem getLsbD_mixH (x y z : Word) (n : Nat) :
    (mixH x y z).getLsbD n = (x.getLsbD n != (y.getLsbD n != z.getLsbD n)) := by
  rw [mixH, getLsbD_xor32, getLsbD_xor32, Bool.bne_assoc]

theorem getLsbD_mixI (x y z : Word) {n : Nat} (hn : n < 32) :
    (mixI x y z).getLsbD n = (y.getLsbD n != (x.getLsbD n || !z.getLsbD n)) := by
  rw [mixI, getLsbD_xor32, getLsbD_or32, getLsbD_not32 z hn]

/-- Settles O40: the four truth tables at bit n, from the bit lemmas of the bitwise operations; MIX selects by its
definition. -/
theorem mixingFunctionsHaveTheirTruthTables : Obligations.MixingFunctionsHaveTheirTruthTables := by
  unfold Obligations.MixingFunctionsHaveTheirTruthTables
  exact fun x y z => ⟨fun n hn =>
    ⟨getLsbD_mixF x y z hn, getLsbD_mixG x y z hn, getLsbD_mixH x y z n, getLsbD_mixI x y z hn⟩, rfl, rfl, rfl, rfl⟩

/-! ### Little-endian packing (R98 to R100) -/

/-- UNLE32 is the packing of four bytes into a register of 32 bits. -/
theorem unle32_eq_ofNat_leValue (b0 b1 b2 b3 : Byte) :
    unle32 b0 b1 b2 b3 = BitVec.ofNat 32 (leValue [b0, b1, b2, b3]) := by
  apply BitVec.eq_of_toNat_eq
  have hlt : leValue [b0, b1, b2, b3] < 2 ^ 32 := leValue_lt _
  rw [unle32_toNat, BitVec.toNat_ofNat, Nat.mod_eq_of_lt hlt]
  simp only [leValue]
  omega

/-- UNLE32 then LE32: each byte is found at its place by the packing rule. -/
theorem le32_unle32 (b0 b1 b2 b3 : Byte) : le32 (unle32 b0 b1 b2 b3) = [b0, b1, b2, b3] := by
  have hbyte : ∀ {n x}, [b0, b1, b2, b3][n]? = some x → (unle32 b0 b1 b2 b3).extractLsb' (8 * n) 8 = x := by
    intro n x h
    rw [unle32_eq_ofNat_leValue]
    exact extractLsb'_ofNat_leValue (by simp) h
  have h0 : (unle32 b0 b1 b2 b3).extractLsb' 0 8 = b0 := hbyte (n := 0) rfl
  have h1 : (unle32 b0 b1 b2 b3).extractLsb' 8 8 = b1 := hbyte (n := 1) rfl
  have h2 : (unle32 b0 b1 b2 b3).extractLsb' 16 8 = b2 := hbyte (n := 2) rfl
  have h3 : (unle32 b0 b1 b2 b3).extractLsb' 24 8 = b3 := hbyte (n := 3) rfl
  rw [le32, h0, h1, h2, h3]

/-- LE32 then UNLE32: the bytes of a word are worth the word. -/
theorem unle32_le32 (v : Word) :
    unle32 (v.extractLsb' 0 8) (v.extractLsb' 8 8) (v.extractLsb' 16 8) (v.extractLsb' 24 8) = v := by
  have hvalue : leValue (le32 v) = v.toNat := by simpa [leValue] using leValue_le32_append v []
  rw [unle32_eq_ofNat_leValue, ← le32, hvalue, BitVec.ofNat_toNat, BitVec.setWidth_eq]

/-- A slice of a slice stands at the sum of the two offsets. -/
theorem extractLsb'_extractLsb'_of_add_le {w : Nat} (x : BitVec w) (a : Nat) {len k n : Nat} (h : k + n ≤ len) :
    (x.extractLsb' a len).extractLsb' k n = x.extractLsb' (a + k) n := by
  ext i hi
  have hki : k + i < len := by omega
  simp [hki, Nat.add_assoc]

/-- The low half of a counter value, then the high half (R100). -/
theorem le64_eq_le32_append_le32 (c : Count) :
    le64 c = le32 (c.extractLsb' 0 32) ++ le32 (c.extractLsb' 32 32) := by
  simp [le64, le32, extractLsb'_extractLsb'_of_add_le]

theorem le64_eq_map_range (c : Count) : le64 c = (List.range 8).map fun n => c.extractLsb' (8 * n) 8 := rfl

theorem le64_getElem? (c : Count) {n : Nat} (hn : n < 8) : (le64 c)[n]? = some (c.extractLsb' (8 * n) 8) := by
  simp [le64_eq_map_range, hn]

/-- Settles O41: UNLE32 in arithmetic, the two inverse directions, and LE64 by halves and by bytes. -/
theorem littleEndianPackingIsItsOwnInverse : Obligations.LittleEndianPackingIsItsOwnInverse := by
  unfold Obligations.LittleEndianPackingIsItsOwnInverse
  exact ⟨fun b0 b1 b2 b3 => ⟨unle32_toNat b0 b1 b2 b3, le32_unle32 b0 b1 b2 b3⟩, fun v => ⟨rfl, unle32_le32 v⟩,
    fun c => ⟨le64_eq_le32_append_le32 c, fun n => le64_getElem? c⟩⟩

/-! ### Hexadecimal characters (R103, R104) -/

/-- Settles O42: the code of a digit, with the difference taken first as R103 writes it. -/
theorem hexDigitsAreLowercaseAscii : Obligations.HexDigitsAreLowercaseAscii := by
  unfold Obligations.HexDigitsAreLowercaseAscii
  refine ⟨fun n => ?_, fun b => rfl⟩
  rw [hexNib_toNat]
  split
  · rfl
  · omega

end Sys2Proof.Machine
end

section
/-! PROOF. The round micro-operations (41_transform): dispatch follows the round table, and the generic step on the
block of BUF is the one the spec writes, first with the operations of the datapath, then with the plain operators. -/

namespace Sys2Proof.Machine

/-! ### Dispatch follows the table (R67, R113) -/

/-- The sixty-four meanings, in the order of the round index, are the generic step with the sixty-four entries of TABLE. -/
theorem map_exec_roundInstrs (s : State) :
    roundInstrs.map (fun o => exec o s) = roundTable.map (fun e => .next (s.roundOp e)) := rfl

theorem exec_decode_round (i : Index) (s : State) :
    exec (decode (.round i)) s = .next (s.roundOp (tableEntry i)) := by
  have hentry := List.getElem_of_eq (map_exec_roundInstrs s) (i := i.toNat) (by simpa [roundInstrs_length] using i.isLt)
  rw [List.getElem_map, List.getElem_map] at hentry
  exact hentry

/-! ### The generic step (R108) -/

/-- With a Transform in progress only the working registers change. -/
theorem State.roundOp_of_running {s : State} {r : Running} (h : s.running = some r) (e : RoundEntry) :
    s.roundOp e = s.setRunning (some { r with work := roundStep e s.buf.block r.work }) := by
  rw [State.roundOp, h, Option.map_some]

/-- The value n of R108, its message word read from BUF. -/
theorem stepValue_block (e : RoundEntry) (m : Memory) (q : Quad) : stepValue e m.block q =
    add32 q.b (rotl32 (sum4 q.a (mix e.sel q.b q.c q.d) (m.readWord (4 * e.k.toNat)) e.t) e.s) := by
  rw [stepValue, blockWord_block]

/-- Settles O26: the index selects its entry of the table, and the generic step reads its message word from BUF. -/
theorem roundOperationIsTheGenericStep : Obligations.RoundOperationIsTheGenericStep := by
  unfold Obligations.RoundOperationIsTheGenericStep
  intro i s r h
  refine ⟨stepValue (tableEntry i) s.buf.block r.work, stepValue_block _ _ _, ?_⟩
  rw [exec_decode_round, State.roundOp_of_running h, roundStep]

/-! ### The four passes as listed (R109 to R112)

The model's F, G, H and I are the plain operators of the lists under names (R86 to R96), so that each listed step is
its row of the table as it stands. -/

/-- The generic step with the plain operators: ADD32 and SUM4 are `+`, ROTL32 is the library's rotation. -/
theorem State.roundOp_eq_afterRoundOp {s : State} {r : Running} (h : s.running = some r) (e : RoundEntry) :
    s.roundOp e =
      s.afterRoundOp r (mix e.sel r.work.b r.work.c r.work.d) e.k.toNat e.s.toNat e.t := by
  rw [State.roundOp_of_running h, roundStep, stepValue_block, rotl32_eq_rotateLeft]
  rfl

/-- The micro-operation of an index, with the numbers of its entry in the table. -/
theorem exec_decode_round_of_running {s : State} {r : Running} (h : s.running = some r) (i : Index) :
    exec (decode (.round i)) s = .next (s.afterRoundOp r
      (mix (tableEntry i).sel r.work.b r.work.c r.work.d) (tableEntry i).k.toNat (tableEntry i).s.toNat
      (tableEntry i).t) := by
  rw [exec_decode_round, State.roundOp_eq_afterRoundOp h]

/-- Settles O28: entries 0 to 15 of the table hold the listed numbers and select F. -/
theorem firstPassStepsAreAsListed : Obligations.FirstPassStepsAreAsListed := by
  unfold Obligations.FirstPassStepsAreAsListed
  intro s r h
  have row := exec_decode_round_of_running h
  exact ⟨row 0, row 1, row 2, row 3, row 4, row 5, row 6, row 7, row 8, row 9, row 10, row 11, row 12, row 13, row 14,
    row 15⟩

/-- Settles O29: entries 16 to 31 of the table hold the listed numbers and select G. -/
theorem secondPassStepsAreAsListed : Obligations.SecondPassStepsAreAsListed := by
  unfold Obligations.SecondPassStepsAreAsListed
  intro s r h
  have row := exec_decode_round_of_running h
  exact ⟨row 16, row 17, row 18, row 19, row 20, row 21, row 22, row 23, row 24, row 25, row 26, row 27, row 28, row 29,
    row 30, row 31⟩

/-- Settles O30: entries 32 to 47 of the table hold the listed numbers and select H. -/
theorem thirdPassStepsAreAsListed : Obligations.ThirdPassStepsAreAsListed := by
  unfold Obligations.ThirdPassStepsAreAsListed
  intro s r h
  have row := exec_decode_round_of_running h
  exact ⟨row 32, row 33, row 34, row 35, row 36, row 37, row 38, row 39, row 40, row 41, row 42, row 43, row 44, row 45,
    row 46, row 47⟩

/-- Settles O31: entries 48 to 63 of the table hold the listed numbers and select I. -/
theorem fourthPassStepsAreAsListed : Obligations.FourthPassStepsAreAsListed := by
  unfold Obligations.FourthPassStepsAreAsListed
  intro s r h
  have row := exec_decode_round_of_running h
  exact ⟨row 48, row 49, row 50, row 51, row 52, row 53, row 54, row 55, row 56, row 57, row 58, row 59, row 60, row 61,
    row 62, row 63⟩

/-! ### The feed-forward (R116) -/

/-- Settles O36: each word of the result is the ADD32 of the accumulator and the working register of its name. -/
theorem feedForwardAddsTheOldAccumulators : Obligations.FeedForwardAddsTheOldAccumulators := by
  unfold Obligations.FeedForwardAddsTheOldAccumulators
  intro acc w blk hw
  have hresult : transform acc blk = feedForward acc w := by rw [transform, hw]
  rw [hresult]
  exact ⟨roundTable_length, add32_toNat _ _, add32_toNat _ _, add32_toNat _ _, add32_toNat _ _⟩

end Sys2Proof.Machine
end

section
/-! PROOF. The update commands IDLE, INIT and DATA (42_update): each one's meaning and beat, what INIT does in the
initial condition, and the two cases of an append by the value of PLEN. -/

namespace Sys2Proof.Machine

/-! ### IDLE (R127) -/

theorem exec_idle (d : Byte) (s : State) : exec (.idle d) s = .next s := rfl

theorem encode_idle_canonical : encode (.idle 0x00#8) = .beat 0x000#10 := by decide

/-- Settles O13: the meaning of IDLE, and its canonical beat. -/
theorem idleKeepsEveryPieceOfState : Obligations.IdleKeepsEveryPieceOfState := by
  unfold Obligations.IdleKeepsEveryPieceOfState
  exact ⟨exec_idle, encode_idle_canonical⟩

/-! ### INIT (R126) -/

theorem exec_init (d : Byte) (s : State) : exec (.init d) s = .next s.initial := rfl

theorem encode_init_canonical : encode (.init 0x00#8) = .beat 0x300#10 := by decide

theorem State.initial_sameBytes (s : State) : SameBytes s s.initial := fun a => by
  rw [State.initial_buf]

theorem State.initial_sameOutside (s : State) : SameOutside s s.initial :=
  ⟨s.initial_digest, s.initial_dvalid, s.initial_running, s.initial_finishing, s.initial_port, s.initial_draws⟩

/-- INIT in the initial condition changes nothing (R126, corner case). -/
theorem State.initial_eq_self {s : State} (h : s.IsInitial) : s.initial = s := by
  obtain ⟨hacc, hcount, hplen⟩ := h
  apply State.ext_fields <;> simp [hacc, hcount, hplen]

/-- Settles O14: the next state is the state with the initial condition established, read field by field. -/
theorem initEstablishesTheInitialCondition : Obligations.InitEstablishesTheInitialCondition := by
  unfold Obligations.InitEstablishesTheInitialCondition
  refine ⟨fun d s => ⟨s.initial, exec_init d s, ?_, s.initial_count, s.initial_plen, s.initial_sameBytes,
    s.initial_sameOutside, State.initial_eq_self⟩, encode_init_canonical⟩
  rw [State.initial_acc, Config.initAcc_eq]

/-! ### One append, by the value of PLEN (R128, R145) -/

/-- BUF after an append: the byte at offset PLEN, every other offset as before. -/
theorem State.append_buf_read (s : State) (x : Byte) (a : Nat) :
    (s.append x).buf.read a = if a = s.plen.toNat then x else s.buf.read a := by
  rw [State.append_buf, Memory.read_write]

/-- Transform reads the buffer with the byte already in place (R129). -/
theorem State.append_at_63 {s : State} (h : s.plen.toNat = 63) (x : Byte) :
    (s.append x).acc = transform s.acc (s.append x).buf.block ∧ (s.append x).plen = 0#6 := by
  have hfull : s.plen = 63#6 := BitVec.eq_of_toNat_eq h
  rw [State.append_of_full hfull]
  simp

theorem State.append_below_63 {s : State} (h : s.plen.toNat ≠ 63) (x : Byte) :
    (s.append x).acc = s.acc ∧ (s.append x).plen.toNat = s.plen.toNat + 1 := by
  have hne : s.plen ≠ 63#6 := fun hp => h (by rw [hp]; rfl)
  have hnowrap : s.plen.toNat + 1 < 2 ^ 6 := by have := s.plen.isLt; omega
  rw [State.append_of_ne hne]
  exact ⟨by simp, BitVec.toNat_add_of_lt hnowrap⟩

theorem State.append_sameOutside (s : State) (x : Byte) : SameOutside s (s.append x) :=
  ⟨s.append_digest x, s.append_dvalid x, s.append_running x, s.append_finishing x, s.append_port x, s.append_draws x⟩

/-! ### DATA (R128) -/

theorem exec_data (b : Byte) (s : State) :
    exec (.data b) s = .next ((s.setCount (inc64 s.count)).append b) := rfl

/-- The beat of DATA b is 0x100 + b: the data field carries nothing into the command field. -/
theorem encode_data (b : Byte) : encode (.data b) = .beat (0x100#10 + b.setWidth 10) := by
  have hbeat : mkBeat 0b01#2 b = 0x100#10 + b.setWidth 10 := by
    apply BitVec.eq_of_toNat_eq
    have hb := b.isLt
    rw [mkBeat, toNat_append_byte, BitVec.toNat_add, BitVec.toNat_setWidth, BitVec.toNat_ofNat, BitVec.toNat_ofNat]
    omega
  rw [encode, hbeat]

/-- Settles O15: DATA is the append of its byte to the state with COUNT advanced, which differs from the old state in
COUNT only; the append is split by whether PLEN was 63. -/
theorem dataAppendsOneMessageByte : Obligations.DataAppendsOneMessageByte := by
  unfold Obligations.DataAppendsOneMessageByte
  refine ⟨fun b s => ⟨_, exec_data b s, ?_, State.append_buf_read _ b, ?_, State.append_sameOutside _ b⟩, encode_data⟩
  · rw [State.append_count, State.setCount_count, inc64_toNat]
  · split
    case isTrue h => exact State.append_at_63 (s := s.setCount (inc64 s.count)) h b
    case isFalse h => exact State.append_below_63 (s := s.setCount (inc64 s.count)) h b

end Sys2Proof.Machine
end

section
/-! PROOF. FINAL as a whole (43_finalize): APPEND beside DATA, the padding length, and the seven steps from the padding
to the initial condition. -/

namespace Sys2Proof.Machine

/-! ### APPEND beside DATA (R145) -/

/-- An append neither reads nor writes COUNT, so it does not matter whether COUNT is set before it or after it. -/
theorem State.append_setCount (s : State) (c : Count) (x : Byte) :
    (s.setCount c).append x = (s.append x).setCount c := by
  by_cases h : s.plen = 63#6
  · rw [State.append_of_full h, State.append_of_full (s := s.setCount c) h]
    apply State.ext_fields <;> simp
  · rw [State.append_of_ne h, State.append_of_ne (s := s.setCount c) h]
    apply State.ext_fields <;> simp

/-- Settles O17: the two cases of an append by the value of PLEN, and DATA's COUNT line moved behind the append. -/
theorem appendIsDataWithoutCount : Obligations.AppendIsDataWithoutCount := by
  unfold Obligations.AppendIsDataWithoutCount
  intro x s
  refine ⟨s.append_buf_read x, fun h => State.append_at_63 h x, fun h => State.append_below_63 h x, s.append_count x,
    s.append_sameOutside x, ?_⟩
  rw [exec_data, State.append_setCount, inc64]

/-! ### The padding length (R142) -/

theorem padLength_range (p : Index) : 1 ≤ padLength p ∧ padLength p ≤ 64 := by
  have hp := p.isLt
  unfold padLength
  split <;> omega

/-- The padding ends at offset 56 of a block, which leaves the eight bytes of the length field. -/
theorem toNat_add_padLength_mod (p : Index) : (p.toNat + padLength p) % 64 = 56 := by
  have hp := p.isLt
  unfold padLength
  split <;> omega

/-- Settles O18: the formula is the definition; range and offset follow from PLEN being below 64. -/
theorem paddingLengthFormula : Obligations.PaddingLengthFormula := by
  unfold Obligations.PaddingLengthFormula
  intro p
  obtain ⟨hpos, hle⟩ := padLength_range p
  exact ⟨rfl, hpos, hle, toNat_add_padLength_mod p⟩

/-! ### PLEN under appends -/

/-- PLEN advances by one modulo 64: from 63 the increment wraps to the 0 of a completed block. -/
theorem State.append_plen (s : State) (x : Byte) : (s.append x).plen = s.plen + 1#6 := by
  by_cases h : s.plen = 63#6
  · rw [State.append_of_full h, State.setPlen_plen, h]
    rfl
  · rw [State.append_of_ne h, State.setPlen_plen]

theorem State.appendAll_plen_toNat (s : State) (xs : List Byte) :
    (s.appendAll xs).plen.toNat = (s.plen.toNat + xs.length) % 64 := by
  induction xs generalizing s with
  | nil => simpa using (Nat.mod_eq_of_lt s.plen.isLt).symm
  | cons x xs ih =>
    rw [State.appendAll_cons, ih, State.append_plen, BitVec.toNat_add, BitVec.toNat_ofNat, List.length_cons]
    omega

/-- Padding and length field fill the block up: after them no byte is pending (R142, R151). -/
theorem State.appendAll_finalBytes_plen (s : State) (len : Count) :
    (s.appendAll (finalBytes len (padLength s.plen))).plen = 0#6 := by
  have hfill := toNat_add_padLength_mod s.plen
  apply BitVec.eq_of_toNat_eq
  rw [State.appendAll_plen_toNat, finalBytes_length len (padLength_range s.plen).1, BitVec.toNat_ofNat]
  omega

/-! ### Delivery (R149) -/

/-- DIGEST shows the sixteen bytes packed into it. -/
theorem digestBytes_packDigest {dg : List Byte} (h : dg.length = 16) : digestBytes (packDigest dg) = dg := by
  apply List.ext_getElem
  · simp [digestBytes, h]
  · intro n _ hn
    have hbyte : digestByte (packDigest dg) n = dg[n] :=
      extractLsb'_ofNat_leValue (by simp [h]) (List.getElem?_eq_getElem hn)
    simpa [digestBytes] using hbyte

theorem digestBytes_finishDigest (s : State) : digestBytes s.finishDigest.digest = serialise s.acc := by
  rw [State.finishDigest_digest, digestBytes_packDigest (serialise_length s.acc)]

/-! ### FINAL (R151) -/

theorem exec_final (d : Byte) (s : State) :
    exec (.final d) s = .next (s.appendAll (finalBytes s.count (padLength s.plen))).finishDigest := rfl

theorem encode_final_canonical : encode (.final 0x00#8) = .beat 0x200#10 := by decide

/-- What FINAL appends, written out: the marker, the zeros, the length field (R143, R144). -/
theorem finalBytes_padLength (len : Count) (p : Index) : finalBytes len (padLength p) =
    [0x80#8] ++ List.replicate ((if p.toNat < 56 then 56 - p.toNat else 120 - p.toNat) - 1) 0x00#8 ++ le64 len := rfl

/-- Settles O20: with the appended bytes written as the padding and the length field, what FINAL shows and leaves behind
is what finishing the digest does to the state after the appends; neither the appends nor the finish touch the rest. -/
theorem finalFollowsTheSevenSteps : Obligations.FinalFollowsTheSevenSteps := by
  unfold Obligations.FinalFollowsTheSevenSteps
  refine ⟨fun d s => ⟨_, exec_final d s, ?_⟩, encode_final_canonical⟩
  simp only [← finalBytes_padLength]
  have hdg := digestBytes_finishDigest (s.appendAll (finalBytes s.count (padLength s.plen)))
  refine ⟨hdg, ?_, State.finishDigest_dvalid _, ?_, State.finishDigest_count _, State.finishDigest_plen _,
    s.appendAll_finalBytes_plen s.count, State.finishDigest_buf _, ?_⟩
  · rw [hexView, hdg, renderHex, serialise]
  · rw [State.finishDigest_acc, Config.initAcc_eq]
  · simp

end Sys2Proof.Machine
end

section
/-! PROOF. Decoder and encoder (30_encoding): each undoes the other, and every instruction is one of the four commands or
the micro-operation of a round index. -/

namespace Sys2Proof.Machine

/-! ### The two directions (R62 to R67, R75) -/

@[simp] theorem beatCmd_mkBeat (cmd : BitVec 2) (data : Byte) : beatCmd (mkBeat cmd data) = cmd :=
  BitVec.extractLsb'_append_eq_left

@[simp] theorem beatData_mkBeat (cmd : BitVec 2) (data : Byte) : beatData (mkBeat cmd data) = data :=
  BitVec.extractLsb'_append_eq_right

/-- A command comes back with its data field, because both fields of its beat do; a micro-operation stands in the list of
the decoder at its own index. -/
theorem decode_encode (i : Instr) : decode (encode i) = i := by
  cases i with
  | idle d | data d | final d | init d => simp [encode, decode, decodeBeat]
  | _ => rfl

/-- Settles O1: one case per constructor. -/
theorem decodeInvertsEncode : Obligations.DecodeInvertsEncode := by
  unfold Obligations.DecodeInvertsEncode
  exact decode_encode

/-- A beat is rebuilt from the command its command field selects and the data field that command keeps. -/
theorem encode_decodeBeat (w : Beat) : encode (decodeBeat w) = .beat w := by
  have hw := mkBeat_beatCmd_beatData w
  obtain h | h | h | h := cmd_cases (beatCmd w) <;> rw [h] at hw
  · rw [decodeBeat_idle h, encode, hw]
  · rw [decodeBeat_data h, encode, hw]
  · rw [decodeBeat_final h, encode, hw]
  · rw [decodeBeat_init h, encode, hw]

theorem encode_decodeRound : ∀ i : Index, encode (decodeRound i) = .round i := by decide

/-- Settles O2: a beat by its two fields, a round index by the sixty-four entries of the decoder's list. -/
theorem encodeInvertsDecode : Obligations.EncodeInvertsDecode := by
  unfold Obligations.EncodeInvertsDecode
  intro e
  cases e with
  | beat w => exact encode_decodeBeat w
  | round i => exact encode_decodeRound i

/-! ### What an instruction can be -/

/-- A beat decodes to one of the four commands (R63, R65). -/
theorem decode_beat_cases (w : Beat) : (∃ d, decode (.beat w) = .idle d) ∨ (∃ b, decode (.beat w) = .data b) ∨
    (∃ d, decode (.beat w) = .final d) ∨ ∃ d, decode (.beat w) = .init d := by
  obtain h | h | h | h := cmd_cases (beatCmd w)
  · exact .inl ⟨_, decodeBeat_idle h⟩
  · exact .inr (.inl ⟨_, decodeBeat_data h⟩)
  · exact .inr (.inr (.inl ⟨_, decodeBeat_final h⟩))
  · exact .inr (.inr (.inr ⟨_, decodeBeat_init h⟩))

/-- Every instruction is one of the four commands or the micro-operation of a round index: it is what its own encoding
decodes to, and that is a beat or a round index. -/
theorem instr_cases (i : Instr) : (∃ d, i = .idle d) ∨ (∃ b, i = .data b) ∨ (∃ d, i = .final d) ∨ (∃ d, i = .init d) ∨
    ∃ k, i = decode (.round k) := by
  rw [← decode_encode i]
  cases encode i with
  | beat w =>
    obtain h | h | h | h := decode_beat_cases w
    · exact .inl h
    · exact .inr (.inl h)
    · exact .inr (.inr (.inl h))
    · exact .inr (.inr (.inr (.inl h)))
  | round k => exact .inr (.inr (.inr (.inr ⟨k, rfl⟩)))

/-- Settles O4: the thirteen words have their command fields and indices as literals. -/
theorem specWordsDecodeAsListed : Obligations.SpecWordsDecodeAsListed := by
  unfold Obligations.SpecWordsDecodeAsListed
  decide

/-! ### Numbers of the opcode table (R62, R67) -/

theorem readRaw_beat_of_lt {w : Nat} (h : w < 1024) : readRaw ⟨.beat, w⟩ = .ok (.beat (BitVec.ofNat 10 w)) := by
  have hwf : (RawWord.mk .beat w).wellFormed = true := decide_eq_true h
  simp [readRaw, hwf]

theorem readRaw_beat_of_ge {w : Nat} (h : 1024 ≤ w) : readRaw ⟨.beat, w⟩ = .error .widerThanBeat := by
  have hwf : (RawWord.mk .beat w).wellFormed = false := decide_eq_false (Nat.not_lt.mpr h)
  simp [readRaw, hwf]

theorem readRaw_round_of_lt {w : Nat} (h : w < 64) : readRaw ⟨.round, w⟩ = .ok (.round (BitVec.ofNat 6 w)) := by
  have hwf : (RawWord.mk .round w).wellFormed = true := decide_eq_true h
  simp [readRaw, hwf]

theorem readRaw_round_of_ge {w : Nat} (h : 64 ≤ w) : readRaw ⟨.round, w⟩ = .error .widerThanRoundIndex := by
  have hwf : (RawWord.mk .round w).wellFormed = false := decide_eq_false (Nat.not_lt.mpr h)
  simp [readRaw, hwf]

/-- A row of sixteen bits is read as a beat, a row of eight bits as a round index. -/
theorem encodedOfTable_beat (w : Nat) : encodedOfTable 16 w = readRaw ⟨.beat, w⟩ := rfl
theorem encodedOfTable_round (w : Nat) : encodedOfTable 8 w = readRaw ⟨.round, w⟩ := rfl

theorem decodeTableWord_of_ok {n w : Nat} {e : Encoded} (h : encodedOfTable n w = .ok e) :
    decodeTableWord n w = some (decode e) := by
  rw [decodeTableWord, h]

theorem decodeTableWord_of_error {n w : Nat} {e : DecodeError} (h : encodedOfTable n w = .error e) :
    decodeTableWord n w = none := by
  rw [decodeTableWord, h]

/-- Settles O5: each format has its bound, below which the number is the word and from which it is refused by name. -/
theorem numbersThatAreNoWordAreRefused : Obligations.NumbersThatAreNoWordAreRefused := by
  unfold Obligations.NumbersThatAreNoWordAreRefused
  exact fun w => ⟨fun h => decodeTableWord_of_ok (readRaw_beat_of_lt h),
    fun h => ⟨decodeTableWord_of_error (readRaw_beat_of_ge h), readRaw_beat_of_ge h⟩,
    fun h => decodeTableWord_of_ok (readRaw_round_of_lt h),
    fun h => ⟨decodeTableWord_of_error (readRaw_round_of_ge h), readRaw_round_of_ge h⟩⟩

end Sys2Proof.Machine
end

section
/-! PROOF. One step of the machine (R6, R28, R61, R178, R191): the five situations a state can be in, what the step does
in each, and the word placed for the next step. -/

namespace Sys2Proof.Machine

/-! ### The five situations -/

/-- A reset is presented first, or a Transform is in progress, or a FINAL between Transforms, or the state is at a
command boundary with a beat presented first or with nothing presented. -/
theorem State.situations (s : State) : (∃ w rest, s.port = .reset w :: rest) ∨
    (s.NoResetNext ∧ ∃ r, s.running = some r) ∨
    (s.NoResetNext ∧ s.running = none ∧ ∃ f, s.finishing = some f) ∨
    (s.AtBoundary ∧ ∃ w rest, s.port = .beat w :: rest) ∨ (s.AtBoundary ∧ s.port = []) := by
  by_cases hreset : ∃ w rest, s.port = .reset w :: rest
  · exact .inl hreset
  · have hno : s.NoResetNext := fun w rest h => hreset ⟨w, rest, h⟩
    cases hr : s.running with
    | some r => exact .inr (.inl ⟨hno, r, rfl⟩)
    | none =>
      cases hf : s.finishing with
      | some f => exact .inr (.inr (.inl ⟨hno, rfl, f, rfl⟩))
      | none =>
        cases hp : s.port with
        | nil => exact .inr (.inr (.inr (.inr ⟨⟨hr, hf⟩, rfl⟩)))
        | cons input rest =>
          cases input with
          | beat w => exact .inr (.inr (.inr (.inl ⟨⟨hr, hf⟩, w, rest, rfl⟩)))
          | reset w => exact absurd hp (hno w rest)

theorem step_of_reset {s : State} {w : Option Beat} {rest : List Input} (h : s.port = .reset w :: rest) :
    step s = .next (s.setPort rest).resetInput := by
  simp [step, nextAction, h]

theorem step_of_running {s : State} {r : Running} (h : s.NoResetNext) (hr : s.running = some r) :
    step s = afterRound (exec (decode (.round r.index)) s) := by
  simp [step, nextAction_of_noReset h, nextWork, hr, decode]

/-- The same with the micro-operation as the generic step on the table's entry (R108, R113). -/
theorem step_of_round {s : State} {r : Running} (h : s.NoResetNext) (hr : s.running = some r) :
    step s = .next (s.roundOp (tableEntry r.index)).advanceRound := by
  rw [step_of_running h hr, exec_decode_round, afterRound]

theorem step_of_finishing {s : State} {f : Finishing} (h : s.NoResetNext) (hr : s.running = none)
    (hf : s.finishing = some f) : step s = .next (s.padStep f) := by
  simp [step, nextAction_of_noReset h, nextWork, hr, hf]

theorem step_of_beat {s : State} {w : Beat} {rest : List Input} (hb : s.AtBoundary) (h : s.port = .beat w :: rest) :
    step s = exec (decode (.beat w)) (s.setPort rest) := by
  simp [step, nextAction, nextWork, hb.1, hb.2, h, decode]

theorem step_of_nothing {s : State} (hb : s.AtBoundary) (h : s.port = []) : step s = .next s := by
  simp [step, nextAction, nextWork, hb.1, hb.2, h]

/-- Settles O6: the situation of a beat at a boundary. -/
theorem stepPerformsThePresentedBeat : Obligations.StepPerformsThePresentedBeat := by
  unfold Obligations.StepPerformsThePresentedBeat
  exact fun s w rest hb h => step_of_beat hb h

/-- Settles O8: the situation of nothing presented at a boundary. -/
theorem blockWaitsWhileNothingIsPresented : Obligations.BlockWaitsWhileNothingIsPresented := by
  unfold Obligations.BlockWaitsWhileNothingIsPresented
  exact fun s hb h => step_of_nothing hb h

/-- Settles O10: the situation of a reset, whose effects are read field by field. -/
theorem resetInputWinsOverBeatAndCommand : Obligations.ResetInputWinsOverBeatAndCommand := by
  unfold Obligations.ResetInputWinsOverBeatAndCommand
  intro s w rest h
  refine ⟨_, step_of_reset h, ?_⟩
  rw [State.resetInput_acc, Config.initAcc_eq]
  simp

/-! ### The round index (R28, R115, R116) -/

theorem State.advanceRound_of_ne {s : State} {r : Running} (hr : s.running = some r) (h : r.index ≠ 63#6) :
    s.advanceRound = s.setRunning (some { r with index := r.index + 1#6 }) := by
  simp [State.advanceRound, hr, h]

theorem State.advanceRound_of_last {s : State} {r : Running} (hr : s.running = some r) (h : r.index = 63#6) :
    s.advanceRound = s.endTransform r.work := by
  simp [State.advanceRound, hr, h]

/-- Settles O7: the micro-operation keeps the round index, by which the sequencer then advances it or ends the
Transform. -/
theorem stepRunsTheRoundOperationOfTheIndex : Obligations.StepRunsTheRoundOperationOfTheIndex := by
  unfold Obligations.StepRunsTheRoundOperationOfTheIndex
  intro s r hr hno
  have hstep := step_of_running hno hr
  have hexec := exec_decode_round r.index s
  have hrun : (s.roundOp (tableEntry r.index)).running =
      some { r with work := roundStep (tableEntry r.index) s.buf.block r.work } := by
    rw [State.roundOp_running, hr, Option.map_some]
  refine ⟨hstep, _, _, hexec, hrun, rfl, fun h => ?_, fun h => ?_⟩
  · rw [hstep, hexec, afterRound, State.advanceRound_of_ne hrun h]
  · rw [hstep, hexec, afterRound, State.advanceRound_of_last hrun h, State.endTransform, State.roundOp_acc]

/-! ### Every instruction and every step is defined (R171, R176) -/

theorem exec_defined (i : Instr) (s : State) : ∃ t, exec i s = .next t := by
  obtain ⟨d, rfl⟩ | ⟨b, rfl⟩ | ⟨d, rfl⟩ | ⟨d, rfl⟩ | ⟨k, rfl⟩ := instr_cases i
  · exact ⟨_, exec_idle d s⟩
  · exact ⟨_, exec_data b s⟩
  · exact ⟨_, exec_final d s⟩
  · exact ⟨_, exec_init d s⟩
  · exact ⟨_, exec_decode_round k s⟩

/-- Settles O11: one case for each command and one for the micro-operations. -/
theorem everyInstructionIsDefinedInEveryState : Obligations.EveryInstructionIsDefinedInEveryState := by
  unfold Obligations.EveryInstructionIsDefinedInEveryState
  exact exec_defined

/-- Settles O12: one case for each situation. -/
theorem stepHasOneOutcome : Obligations.StepHasOneOutcome := by
  unfold Obligations.StepHasOneOutcome
  intro s
  obtain ⟨w, rest, hp⟩ | ⟨hno, r, hr⟩ | ⟨hno, hr, f, hf⟩ | ⟨hb, w, rest, hp⟩ | ⟨hb, hp⟩ := s.situations
  · exact ⟨_, step_of_reset hp⟩
  · exact ⟨_, step_of_round hno hr⟩
  · exact ⟨_, step_of_finishing hno hr hf⟩
  · rw [step_of_beat hb hp]
    exact exec_defined _ _
  · exact ⟨_, step_of_nothing hb hp⟩

/-! ### Micro-operations outside a Transform, and the table -/

/-- Settles O27: there is no working register for the generic step to act on. -/
theorem roundOperationOutsideATransformDoesNothing : Obligations.RoundOperationOutsideATransformDoesNothing := by
  unfold Obligations.RoundOperationOutsideATransformDoesNothing
  intro i s hr
  have hsame : s.roundOp (tableEntry i) = s := by apply State.ext_fields <;> simp [hr]
  rw [exec_decode_round, hsame]

theorem tableEntry_wellFormed : ∀ i : Index, (tableEntry i).wellFormed i.toNat = true := by decide +kernel

/-- Settles O32: the sixty-four entries are checked one by one, and the two checksums computed. -/
theorem roundTableHasItsRegularities : Obligations.RoundTableHasItsRegularities := by
  unfold Obligations.RoundTableHasItsRegularities
  exact ⟨tableEntry_wellFormed, by decide +kernel, by decide +kernel⟩

/-! ### The word placed for the next step (assumption log 5) -/

/-- The inputs left after resets are dropped do not begin with one. -/
theorem dropResets_ne_reset (inputs : List Input) (w : Option Beat) (rest : List Input) :
    dropResets inputs ≠ .reset w :: rest := by
  induction inputs with
  | nil => simp [dropResets]
  | cons input inputs ih =>
    cases input with
    | beat v => simp [dropResets]
    | reset v => exact ih

theorem State.withFetchWord_beat (s : State) (w : Beat) : s.withFetchWord 16 w.toNat = s.place (.beat w) := by
  rw [State.withFetchWord, encodedOfTable_beat, readRaw_beat_of_lt w.isLt, BitVec.ofNat_toNat, BitVec.setWidth_eq]

theorem State.withFetchWord_round (s : State) (i : Index) : s.withFetchWord 8 i.toNat = s.place (.round i) := by
  rw [State.withFetchWord, encodedOfTable_round, readRaw_round_of_lt i.isLt, BitVec.ofNat_toNat, BitVec.setWidth_eq]

/-- A placed beat stands at a boundary, ahead of the inputs still to come. -/
theorem step_place_beat (s : State) (w : Beat) :
    step (s.place (.beat w)) = exec (decode (.beat w)) ((s.setRunning none).setFinishing none) :=
  step_of_beat (rest := s.port) ⟨rfl, rfl⟩ rfl

/-- A placed round index stands in a Transform in progress with no reset presented. -/
theorem step_place_round (s : State) (i : Index) :
    step (s.place (.round i)) = afterRound (exec (decode (.round i)) (s.place (.round i))) :=
  step_of_running (s := s.place (.round i)) (fun w rest => dropResets_ne_reset s.port w rest) rfl

/-- Settles O9: a number that fits its format is placed as its word, and the placed word is what the step finds. -/
theorem placedWordRunsInTheNextStep : Obligations.PlacedWordRunsInTheNextStep := by
  unfold Obligations.PlacedWordRunsInTheNextStep
  refine ⟨fun s w => ?_, fun s i => ?_⟩
  · rw [State.withFetchWord_beat, step_place_beat]
  · rw [State.withFetchWord_round]
    exact ⟨step_place_round s i, _, rfl, rfl⟩

end Sys2Proof.Machine
end

section
/-! PROOF. The invariant (R24, R27, R36): it holds after reset, and the step of each situation keeps it. -/

namespace Sys2Proof.Machine

/-- Settles O47: the state after reset is in the initial condition with nothing listed in BUF. -/
theorem resetStateIsInvariant : Obligations.ResetStateIsInvariant := by
  unfold Obligations.ResetStateIsInvariant
  exact State.inv_of_initial rfl rfl rfl rfl rfl

/-! ### Writing and counting message bytes -/

/-- The begun append keeps BUF in canonical form. -/
theorem State.beginAppend_wf {s : State} (x : Byte) (h : s.buf.wf = true) : (s.beginAppend x).buf.wf = true := by
  rw [(s.beginAppend_spec x).1]
  exact Memory.wf_write x s.plen.isLt h

/-- COUNT alone gives the offset in the block. -/
theorem State.messageOffset_congr {s t : State} (h : t.count = s.count) : t.messageOffset = s.messageOffset := by
  rw [State.messageOffset, State.messageOffset, h]

/-- A counter of whole bytes stays one when a byte is counted, also where it wraps. -/
theorem inc64_whole_bytes {c : Count} (h : c.toNat % 8 = 0) : (inc64 c).toNat % 8 = 0 := by
  rw [inc64_toNat]
  omega

/-- One byte counted is one byte further in the block, because 2^64 bits are a whole number of blocks. -/
theorem State.messageOffset_of_inc64 {s t : State} (h : s.count.toNat % 8 = 0) (ht : t.count = inc64 s.count) :
    t.messageOffset = (s.messageOffset + 1) % 64 := by
  rw [State.messageOffset, State.messageOffset, ht, inc64_toNat]
  omega

/-- The position speaks of COUNT, PLEN, the FINAL in progress, and of whether a Transform is in progress. -/
theorem State.positionOk_congr {s t : State} (hcount : t.count = s.count) (hplen : t.plen = s.plen)
    (hf : t.finishing = s.finishing) (hr : t.running.isSome = s.running.isSome) : t.positionOk = s.positionOk := by
  have hoff := State.messageOffset_congr hcount
  unfold State.positionOk
  rw [hf, hplen, hoff, hcount]
  cases hs : s.running with
  | none =>
    have ht : t.running = none := by simpa [hs] using hr
    rw [ht]
  | some r =>
    obtain ⟨q, ht⟩ : ∃ q, t.running = some q := by simpa [hs, Option.isSome_iff_exists] using hr
    rw [ht]
    cases s.finishing <;> rfl

/-! ### The step of each situation keeps the invariant -/

theorem State.resetInput_inv (s : State) : s.resetInput.Inv :=
  State.inv_of_initial (by rw [State.resetInput_buf]; exact freeBuf_wf _) s.resetInput_count s.resetInput_plen
    s.resetInput_running s.resetInput_finishing

/-- A micro-operation changes the working registers only. -/
theorem State.roundOp_inv {s : State} (h : s.Inv) (e : RoundEntry) : (s.roundOp e).Inv := by
  obtain ⟨hwf, hcount, hpos⟩ := h
  refine ⟨by simpa using hwf, by simpa using hcount, ?_⟩
  rw [State.positionOk_congr (s := s) (by simp) (by simp) (by simp) (by simp), hpos]

/-- The end of a Transform takes PLEN from 63 to 0, which is where the completed block puts it. -/
theorem State.endTransform_inv {s : State} {r : Running} (hr : s.running = some r) (h : s.Inv) (work : Quad) :
    (s.endTransform work).Inv := by
  obtain ⟨hwf, hcount, hpos⟩ := h
  refine ⟨by simpa using hwf, by simpa using hcount, ?_⟩
  have hoff : (s.endTransform work).messageOffset = s.messageOffset :=
    State.messageOffset_congr (State.endTransform_count s work)
  cases hf : s.finishing with
  | none =>
    obtain ⟨-, hzero⟩ := (State.positionOk_running hf hr).mp hpos
    refine (State.positionOk_boundary (by simpa using hf) (by simp)).mpr ?_
    rw [hoff, hzero, State.endTransform_plen, BitVec.toNat_ofNat]
  | some f =>
    obtain ⟨hlen, hpadn, hle, -, hzero⟩ := (State.positionOk_finishing_running hf hr).mp hpos
    refine (State.positionOk_finishing (by simpa using hf) (by simp)).mpr ?_
    rw [hoff, State.endTransform_count, State.endTransform_plen, hzero]
    exact ⟨hlen, hpadn, hle, rfl⟩

/-- The advance of the index moves on inside the Transform or ends it. -/
theorem State.advanceRound_inv {s : State} (h : s.Inv) : s.advanceRound.Inv := by
  cases hr : s.running with
  | none => simpa [State.advanceRound, hr] using h
  | some r =>
    by_cases hlast : r.index = 63#6
    · rw [State.advanceRound_of_last hr hlast]
      exact State.endTransform_inv hr h _
    · rw [State.advanceRound_of_ne hr hlast]
      obtain ⟨hwf, hcount, hpos⟩ := h
      refine ⟨by simpa using hwf, by simpa using hcount, ?_⟩
      rw [State.positionOk_congr (s := s) (by simp) (by simp) (by simp) (by simp [hr]), hpos]

/-- The begun append of the padding engine, which has counted the byte already: PLEN catches up with the position, or a
Transform starts on the block that the byte completes. -/
theorem State.beginAppend_inv {s : State} {f : Finishing} (hr : s.running = none) (hf : s.finishing = some f)
    (hwf : s.buf.wf = true) (hcount : s.count.toNat % 8 = 0) (hlen : f.len = s.count)
    (hpadn : f.padn = padLength (BitVec.ofNat 6 s.messageOffset)) (hle : f.pos ≤ f.padn + 8)
    (hplen : (s.plen.toNat + 1) % 64 = (s.messageOffset + f.pos) % 64) (x : Byte) : (s.beginAppend x).Inv := by
  obtain ⟨-, -, hc, hfin, -, -, hfull, hnotfull⟩ := s.beginAppend_spec x
  have hoff := State.messageOffset_congr hc
  refine ⟨State.beginAppend_wf x hwf, by rwa [hc], ?_⟩
  by_cases h63 : s.plen = 63#6
  · obtain ⟨hp, hrun⟩ := hfull h63
    refine (State.positionOk_finishing_running (hfin.trans hf) hrun).mpr ?_
    rw [hoff, hc, hp, ← hplen, h63]
    exact ⟨hlen, hpadn, hle, rfl, rfl⟩
  · obtain ⟨hp, hrun⟩ := hnotfull h63
    refine (State.positionOk_finishing (hfin.trans hf) (hrun.trans hr)).mpr ?_
    rw [hoff, hc, hp, ← hplen]
    exact ⟨hlen, hpadn, hle, BitVec.toNat_add s.plen 1#6⟩

/-- The padding engine appends its next byte, or finds all bytes appended and establishes the initial condition. -/
theorem State.padStep_inv {s : State} {f : Finishing} (hr : s.running = none) (hf : s.finishing = some f) (h : s.Inv) :
    (s.padStep f).Inv := by
  obtain ⟨hwf, hcount, hpos⟩ := h
  obtain ⟨hlen, hpadn, -, hplen⟩ := (State.positionOk_finishing hf hr).mp hpos
  unfold State.padStep
  split
  case h_1 x hx =>
    have hlt : f.pos < f.padn + 8 := by
      have hindex := (List.getElem?_eq_some_iff.mp hx).1
      rwa [finalBytes_length _ (by rw [hpadn]; exact (padLength_range _).1)] at hindex
    have hnext : (s.plen.toNat + 1) % 64 = (s.messageOffset + (f.pos + 1)) % 64 := by omega
    exact State.beginAppend_inv (s := s.setFinishing (some { f with pos := f.pos + 1 })) hr rfl hwf hcount hlen hpadn hlt
      hnext x
  case h_2 => exact State.inv_of_initial (by simpa using hwf) (by simp) (by simp) (by simp [hr]) (by simp)

/-- DATA counts its byte and moves PLEN on by one, modulo the block. -/
theorem State.append_inc64_inv {s : State} (hb : s.AtBoundary) (h : s.Inv) (b : Byte) :
    ((s.setCount (inc64 s.count)).append b).Inv := by
  obtain ⟨hwf, hcount, hpos⟩ := h
  obtain ⟨hr, hf⟩ := hb
  have hplen := (State.positionOk_boundary hf hr).mp hpos
  have hc : ((s.setCount (inc64 s.count)).append b).count = inc64 s.count := by simp
  refine ⟨State.append_wf b hwf, by rw [hc]; exact inc64_whole_bytes hcount, ?_⟩
  refine (State.positionOk_boundary (by simpa using hf) (by simpa using hr)).mpr ?_
  rw [State.messageOffset_of_inc64 hcount hc, State.append_plen, ← hplen]
  exact BitVec.toNat_add s.plen 1#6

/-- A command performed at a boundary keeps the invariant. -/
theorem exec_beat_inv {s : State} (hb : s.AtBoundary) (h : s.Inv) (w : Beat) :
    ∃ t, exec (decode (.beat w)) s = .next t ∧ t.Inv := by
  obtain ⟨d, hw⟩ | ⟨b, hw⟩ | ⟨d, hw⟩ | ⟨d, hw⟩ := decode_beat_cases w <;> rw [hw]
  · exact ⟨_, exec_idle d s, h⟩
  · exact ⟨_, exec_data b s, State.append_inc64_inv hb h b⟩
  · exact ⟨_, exec_final d s, State.inv_of_initial (by simpa using State.appendAll_wf _ h.1) (by simp) (by simp)
      (by simpa using hb.1) (by simpa using hb.2)⟩
  · exact ⟨_, exec_init d s, State.inv_of_initial (by simpa using h.1) (by simp) (by simp) (by simpa using hb.1)
      (by simpa using hb.2)⟩

/-- What the step of each situation answers satisfies the invariant. -/
theorem step_inv {s : State} (h : s.Inv) : ∃ t, step s = .next t ∧ t.Inv := by
  obtain ⟨w, rest, hp⟩ | ⟨hno, r, hr⟩ | ⟨hno, hr, f, hf⟩ | ⟨hb, w, rest, hp⟩ | ⟨hb, hp⟩ := s.situations
  · exact ⟨_, step_of_reset hp, State.resetInput_inv _⟩
  · exact ⟨_, step_of_round hno hr, State.advanceRound_inv (State.roundOp_inv h _)⟩
  · exact ⟨_, step_of_finishing hno hr hf, State.padStep_inv hr hf h⟩
  · rw [step_of_beat hb hp]
    exact exec_beat_inv (s := s.setPort rest) hb h w
  · exact ⟨_, step_of_nothing hb hp, h⟩

/-- Settles O48: the step has one outcome, and that one satisfies the invariant. -/
theorem everyStepKeepsTheInvariant : Obligations.EveryStepKeepsTheInvariant := by
  unfold Obligations.EveryStepKeepsTheInvariant
  intro s t h ht
  obtain ⟨u, hu, hinv⟩ := step_inv h
  obtain rfl := Host.Outcome.next.inj (hu.symm.trans ht)
  exact hinv

end Sys2Proof.Machine
end

section
/-! PROOF. Unspecified values never matter (R26, R30, R50): each operation, performed on two states that differ at most in
stale cells of BUF, in DIGEST and in DVALID, leaves two such states. -/

namespace Sys2Proof.Machine

/-! ### Live cells -/

theorem State.liveCells_of_running {s : State} {r : Running} (h : s.running = some r) : s.liveCells = 64 := by
  simp [State.liveCells, h]

theorem State.liveCells_of_none {s : State} (h : s.running = none) : s.liveCells = s.plen.toNat := by
  simp [State.liveCells, h]

/-- Where PLEN goes down, or stays, no cell becomes live. -/
theorem State.liveCells_le {s u : State} (hr : u.running.isSome = s.running.isSome) (hp : u.plen.toNat ≤ s.plen.toNat) :
    u.liveCells ≤ s.liveCells := by
  unfold State.liveCells
  rw [hr]
  split <;> omega

/-- Where PLEN goes up by one, the cell at the old PLEN is the only one to become live. -/
theorem State.lt_liveCells_or_eq {s u : State} {a : Nat} (hr : u.running.isSome = s.running.isSome)
    (hp : u.plen.toNat ≤ s.plen.toNat + 1) (ha : a < u.liveCells) : a < s.liveCells ∨ a = s.plen.toNat := by
  unfold State.liveCells at ha ⊢
  rw [hr] at ha
  cases hs : s.running.isSome <;> simp only [hs, if_true, Bool.false_eq_true, if_false] at ha ⊢ <;> omega

/-- With PLEN at 63 every cell of the block is live or the next one to be written. -/
theorem State.lt_liveCells_or_eq_of_full {s : State} {a : Nat} (h : s.plen = 63#6) (ha : a < 64) :
    a < s.liveCells ∨ a = s.plen.toNat := by
  unfold State.liveCells
  rw [h]
  split <;> simp <;> omega

/-! ### The begun append by the value of PLEN (R145) -/

theorem State.beginAppend_of_full {s : State} (h : s.plen = 63#6) (x : Byte) :
    s.beginAppend x = (s.writePending x).beginTransform := by
  rw [State.beginAppend, if_pos h]

/-- Below 63 nothing of the append is left to micro-operations. -/
theorem State.beginAppend_of_ne {s : State} (h : s.plen ≠ 63#6) (x : Byte) : s.beginAppend x = s.append x := by
  rw [State.beginAppend, if_neg h, State.append_of_ne h]

/-! ### The operations on two states alike -/

section
variable {s t : State} (h : SameButUnspecified s t)
include h

/-- The whole block is live while a Transform runs on it. -/
theorem SameButUnspecified.block {r : Running} (hr : s.running = some r) : s.buf.block = t.buf.block := by
  obtain ⟨-, -, -, -, -, -, -, hcells⟩ := h
  rw [State.liveCells_of_running hr] at hcells
  exact Memory.block_congr hcells

/-- A write of a pending byte leaves the live cells alike and makes its own cell alike. -/
theorem SameButUnspecified.read_write (x : Byte) {a : Nat} (ha : a < s.liveCells ∨ a = s.plen.toNat) :
    (s.buf.write s.plen.toNat x).read a = (t.buf.write t.plen.toNat x).read a := by
  obtain ⟨-, -, hplen, -, -, -, -, hcells⟩ := h
  rw [Memory.read_write, Memory.read_write, ← hplen]
  by_cases hap : a = s.plen.toNat
  · rw [if_pos hap, if_pos hap]
  · rw [if_neg hap, if_neg hap]
    exact hcells a (ha.resolve_right hap)

/-- The byte that completes the block makes the whole block alike. -/
theorem SameButUnspecified.block_write (x : Byte) (hfull : s.plen = 63#6) :
    (s.buf.write s.plen.toNat x).block = (t.buf.write t.plen.toNat x).block :=
  Memory.block_congr fun _ ha => h.read_write x (State.lt_liveCells_or_eq_of_full hfull ha)

theorem SameButUnspecified.append_acc (x : Byte) : (s.append x).acc = (t.append x).acc := by
  have hblock := h.block_write x
  obtain ⟨hacc, -, hplen, -, -, -, -, -⟩ := h
  by_cases hfull : s.plen = 63#6
  · rw [State.append_of_full hfull, State.append_of_full (hplen ▸ hfull)]
    simp only [State.setPlen_acc, State.transformBlock_acc, State.writePending_acc, State.writePending_buf]
    rw [hacc, hblock hfull]
  · rw [State.append_of_ne hfull, State.append_of_ne (hplen ▸ hfull)]
    simp [hacc]

theorem SameButUnspecified.append (x : Byte) : SameButUnspecified (s.append x) (t.append x) := by
  have hacc := h.append_acc x
  have hread := fun a => h.read_write x (a := a)
  obtain ⟨-, hcount, hplen, hrun, hfin, hport, hdraws, -⟩ := h
  refine ⟨hacc, by simpa, by simp [State.append_plen, hplen], by simpa, by simpa, by simpa, by simpa, fun a ha => ?_⟩
  rw [State.append_buf, State.append_buf]
  refine hread a (State.lt_liveCells_or_eq (by simp) ?_ ha)
  rw [State.append_plen, BitVec.toNat_add]
  exact Nat.mod_le _ _

theorem SameButUnspecified.setCount (c : Count) : SameButUnspecified (s.setCount c) (t.setCount c) := by
  obtain ⟨hacc, -, hrest⟩ := h
  exact ⟨hacc, rfl, hrest⟩

theorem SameButUnspecified.setPort (p : List Input) : SameButUnspecified (s.setPort p) (t.setPort p) := by
  obtain ⟨hacc, hcount, hplen, hrun, hfin, -, hdraws, hcells⟩ := h
  exact ⟨hacc, hcount, hplen, hrun, hfin, rfl, hdraws, hcells⟩

theorem SameButUnspecified.setFinishing (f : Option Finishing) :
    SameButUnspecified (s.setFinishing f) (t.setFinishing f) := by
  obtain ⟨hacc, hcount, hplen, hrun, -, hrest⟩ := h
  exact ⟨hacc, hcount, hplen, hrun, rfl, hrest⟩

theorem SameButUnspecified.initial : SameButUnspecified s.initial t.initial := by
  obtain ⟨-, -, -, hrun, hfin, hport, hdraws, hcells⟩ := h
  refine ⟨by simp, by simp, by simp, by simpa, by simpa, by simpa, by simpa, fun a ha => ?_⟩
  rw [State.initial_buf, State.initial_buf]
  exact hcells a (ha.trans_le (State.liveCells_le (by simp) (by simp)))

/-- The outputs are none of the fields compared, so delivering any digests keeps two states alike. -/
theorem SameButUnspecified.deliver (dg dg' : List Byte) : SameButUnspecified (s.deliver dg) (t.deliver dg') := h

theorem SameButUnspecified.finishDigest : SameButUnspecified s.finishDigest t.finishDigest :=
  (h.deliver (serialise s.acc) (serialise t.acc)).initial

/-- A reset draws the free values by the number of the reset, which is the same in both. -/
theorem SameButUnspecified.resetInput : SameButUnspecified s.resetInput t.resetInput := by
  obtain ⟨-, -, -, -, -, hport, hdraws, -⟩ := h
  refine ⟨by simp, by simp, by simp, by simp, by simp, by simpa, by simpa, fun a _ => ?_⟩
  rw [State.resetInput_buf, State.resetInput_buf, hdraws]

theorem SameButUnspecified.roundOp {r : Running} (hr : s.running = some r) (e : RoundEntry) :
    SameButUnspecified (s.roundOp e) (t.roundOp e) := by
  have hblock := h.block hr
  obtain ⟨hacc, hcount, hplen, hrun, hfin, hport, hdraws, hcells⟩ := h
  refine ⟨by simpa, by simpa, by simpa, ?_, by simpa, by simpa, by simpa, fun a ha => ?_⟩
  · rw [State.roundOp_running, State.roundOp_running, hrun, hblock]
  · rw [State.roundOp_buf, State.roundOp_buf]
    exact hcells a (ha.trans_le (State.liveCells_le (by simp) (by simp)))

theorem SameButUnspecified.endTransform (work : Quad) :
    SameButUnspecified (s.endTransform work) (t.endTransform work) := by
  obtain ⟨hacc, hcount, -, -, hfin, hport, hdraws, -⟩ := h
  refine ⟨by simp [hacc], by simpa, by simp, by simp, by simpa, by simpa, by simpa, fun a ha => ?_⟩
  rw [State.liveCells_of_none (s.endTransform_running work), State.endTransform_plen] at ha
  exact absurd ha (Nat.not_lt_zero a)

theorem SameButUnspecified.advanceRound : SameButUnspecified s.advanceRound t.advanceRound := by
  have ⟨hacc, hcount, hplen, hrun, hfin, hport, hdraws, hcells⟩ := h
  cases hr : s.running with
  | none => simpa only [State.advanceRound, hr, ← hrun] using h
  | some r =>
    by_cases hlast : r.index = 63#6
    · rw [State.advanceRound_of_last hr hlast, State.advanceRound_of_last (hrun ▸ hr) hlast]
      exact h.endTransform r.work
    · rw [State.advanceRound_of_ne hr hlast, State.advanceRound_of_ne (hrun ▸ hr) hlast]
      rw [State.liveCells_of_running hr] at hcells
      exact ⟨hacc, hcount, hplen, rfl, hfin, hport, hdraws, hcells⟩

theorem SameButUnspecified.beginAppend (x : Byte) : SameButUnspecified (s.beginAppend x) (t.beginAppend x) := by
  have happend := h.append x
  have hread := fun a => h.read_write x (a := a)
  obtain ⟨hacc, hcount, hplen, -, hfin, hport, hdraws, -⟩ := h
  by_cases hfull : s.plen = 63#6
  · rw [State.beginAppend_of_full hfull, State.beginAppend_of_full (hplen ▸ hfull)]
    refine ⟨by simpa, by simpa, by simpa, by simpa, by simpa, by simpa, by simpa, fun a ha => ?_⟩
    rw [State.liveCells_of_running (State.beginTransform_running _)] at ha
    rw [State.beginTransform_buf, State.beginTransform_buf, State.writePending_buf, State.writePending_buf]
    exact hread a (State.lt_liveCells_or_eq_of_full hfull ha)
  · rw [State.beginAppend_of_ne hfull, State.beginAppend_of_ne (hplen ▸ hfull)]
    exact happend

/-- The padding engine reads its own position only. -/
theorem SameButUnspecified.padStep (f : Finishing) : SameButUnspecified (s.padStep f) (t.padStep f) := by
  unfold State.padStep
  split
  · exact (h.setFinishing _).beginAppend _
  · exact h.finishDigest.setFinishing none

theorem SameButUnspecified.appendAll (xs : List Byte) : SameButUnspecified (s.appendAll xs) (t.appendAll xs) := by
  induction xs generalizing s t with
  | nil => exact h
  | cons x xs ih => exact ih (h.append x)

/-- A command does not read what is unspecified: IDLE nothing at all, INIT and the others only what is compared. -/
theorem SameButUnspecified.exec_beat (w : Beat) : ∃ s' t', exec (decode (.beat w)) s = .next s' ∧
    exec (decode (.beat w)) t = .next t' ∧ SameButUnspecified s' t' := by
  have ⟨_, hcount, hplen, _, _, _, _, _⟩ := h
  obtain ⟨d, hw⟩ | ⟨b, hw⟩ | ⟨d, hw⟩ | ⟨d, hw⟩ := decode_beat_cases w <;> rw [hw]
  · exact ⟨_, _, exec_idle d s, exec_idle d t, h⟩
  · refine ⟨_, _, exec_data b s, exec_data b t, ?_⟩
    rw [hcount]
    exact (h.setCount _).append b
  · refine ⟨_, _, exec_final d s, exec_final d t, ?_⟩
    rw [hcount, hplen]
    exact (h.appendAll _).finishDigest
  · exact ⟨_, _, exec_init d s, exec_init d t, h.initial⟩

/-- Two states alike are in the same situation, and the step of each situation keeps them alike. -/
theorem SameButUnspecified.step : ∃ s' t', step s = .next s' ∧ step t = .next t' ∧ SameButUnspecified s' t' := by
  have ⟨_, _, _, hrun, hfin, hport, _, _⟩ := h
  have hno : s.NoResetNext → t.NoResetNext := fun hs w rest => hport ▸ hs w rest
  have hbound : s.AtBoundary → t.AtBoundary := fun hs => ⟨hrun ▸ hs.1, hfin ▸ hs.2⟩
  obtain ⟨w, rest, hp⟩ | ⟨hs, r, hr⟩ | ⟨hs, hr, f, hf⟩ | ⟨hb, w, rest, hp⟩ | ⟨hb, hp⟩ := s.situations
  · exact ⟨_, _, step_of_reset hp, step_of_reset (hport ▸ hp), (h.setPort rest).resetInput⟩
  · exact ⟨_, _, step_of_round hs hr, step_of_round (hno hs) (hrun ▸ hr), (h.roundOp hr _).advanceRound⟩
  · exact ⟨_, _, step_of_finishing hs hr hf, step_of_finishing (hno hs) (hrun ▸ hr) (hfin ▸ hf), h.padStep f⟩
  · rw [step_of_beat hb hp, step_of_beat (hbound hb) (hport ▸ hp)]
    exact (h.setPort rest).exec_beat w
  · exact ⟨_, _, step_of_nothing hb hp, step_of_nothing (hbound hb) (hport ▸ hp), h⟩

end

/-- Settles O49: two states alike step to two states alike. -/
theorem nothingReadsUnspecifiedValues : Obligations.NothingReadsUnspecifiedValues := by
  unfold Obligations.NothingReadsUnspecifiedValues
  exact fun s t h => h.step

/-! ### FINAL and the values left unspecified (R147 to R150) -/

/-- Settles O25: the accumulators after FINAL's appends are compared, so they are alike, and they are all that the digest
is made of. -/
theorem finalResultDependsOnLiveStateOnly : Obligations.FinalResultDependsOnLiveStateOnly := by
  unfold Obligations.FinalResultDependsOnLiveStateOnly
  intro d e s t h
  obtain ⟨hacc, -⟩ := h.appendAll (finalBytes t.count (padLength t.plen))
  obtain ⟨-, hcount, hplen, -⟩ := h
  refine ⟨_, _, exec_final d s, exec_final e t, ?_, State.finishDigest_dvalid _, State.finishDigest_dvalid _⟩
  rw [State.finishDigest_digest, State.finishDigest_digest, hcount, hplen, hacc]

/-- Settles O24: FINAL ends in the initial condition, where no cell is live, and does not touch what is in progress. -/
theorem finalLeavesAFreshBlock : Obligations.FinalLeavesAFreshBlock := by
  unfold Obligations.FinalLeavesAFreshBlock
  intro d s hb
  refine ⟨_, exec_final d s, State.finishDigest_dvalid _, by simp, by simp, by simp, by simpa using hb.1,
    by simpa using hb.2, by simp, by simp, fun a ha => ?_⟩
  rw [State.liveCells_of_none (by simpa using hb.1), State.finishDigest_plen] at ha
  exact absurd ha (Nat.not_lt_zero a)

/-! ### The counter and DATA (R135) -/

theorem State.setCount_setCount (s : State) (c c' : Count) : (s.setCount c).setCount c' = s.setCount c' := rfl

theorem inc64_eq_ofNat (c : Count) : inc64 c = BitVec.ofNat 64 (c.toNat + 8) := by
  apply BitVec.eq_of_toNat_eq
  rw [inc64_toNat, BitVec.toNat_ofNat]

/-- Settles O16: an append does not see COUNT, so DATA's two effects can be separated; at the greatest multiple of 8 the
counter's own sum is 0. -/
theorem counterValueNeverInfluencesData : Obligations.CounterValueNeverInfluencesData := by
  unfold Obligations.CounterValueNeverInfluencesData
  refine ⟨fun b s c => ⟨_, exec_data b s, ?_⟩, fun b s h => ⟨_, exec_data b s, ?_⟩⟩
  · rw [exec_data, State.setCount_setCount, State.append_setCount, State.append_setCount, State.setCount_setCount,
      State.setCount_count, inc64_eq_ofNat]
  · rw [State.append_count, State.setCount_count, h]
    rfl

end Sys2Proof.Machine
end

section
/-! PROOF. The padded blocks of FINAL (43_finalize): what FINAL appends, byte by byte, and the one or two blocks its digest
is the Transform of. -/

namespace Sys2Proof.Machine

/-! ### The appended bytes (R143, R144) -/

theorem paddingBytes_getElem? {padn j : Nat} (h : j < padn) :
    (paddingBytes padn)[j]? = some (if j = 0 then 0x80#8 else 0x00#8) := by
  cases j with
  | zero => rfl
  | succ j =>
    rw [paddingBytes, List.getElem?_cons_succ, List.getElem?_replicate, if_pos (Nat.lt_sub_of_add_lt h),
      if_neg j.succ_ne_zero]

theorem finalBytes_getElem?_of_lt (len : Count) {padn j : Nat} (h : j < padn) :
    (finalBytes len padn)[j]? = some (if j = 0 then 0x80#8 else 0x00#8) := by
  have hlen : (paddingBytes padn).length = padn := paddingBytes_length (Nat.one_le_of_lt h)
  rw [finalBytes, List.getElem?_append_left (by rwa [hlen]), paddingBytes_getElem? h]

theorem finalBytes_getElem?_of_ge (len : Count) {padn j : Nat} (hpos : 1 ≤ padn) (h : padn ≤ j) (hj : j < padn + 8) :
    (finalBytes len padn)[j]? = some (len.extractLsb' (8 * (j - padn)) 8) := by
  have hlen : (paddingBytes padn).length = padn := paddingBytes_length hpos
  rw [finalBytes, List.getElem?_append_right (by rwa [hlen]), hlen, le64_getElem? len (by omega)]

/-- Settles O19: the length, and the byte at each place before and after the end of the padding. -/
theorem finalAppendsMarkerZerosAndLength : Obligations.FinalAppendsMarkerZerosAndLength := by
  unfold Obligations.FinalAppendsMarkerZerosAndLength
  intro len p
  have hpos := (padLength_range p).1
  have hlength := finalBytes_length len hpos
  refine ⟨hlength, fun j x hx => ⟨fun h0 => ?_, fun h1 hlt => ?_, fun hge => ?_⟩⟩
  · rw [h0, finalBytes_getElem?_of_lt len (by omega)] at hx
    exact (Option.some.inj hx).symm
  · rw [finalBytes_getElem?_of_lt len hlt, if_neg (by omega)] at hx
    exact (Option.some.inj hx).symm
  · have hj : j < padLength p + 8 := hlength ▸ (List.getElem?_eq_some_iff.mp hx).1
    rw [finalBytes_getElem?_of_ge len hpos hge hj] at hx
    exact (Option.some.inj hx).symm

/-! ### Reading BUF after a run of bytes was written -/

theorem Memory.read_writeBytes_below (m : Memory) {a b : Nat} (xs : List Byte) (h : b < a) :
    (m.writeBytes a xs).read b = m.read b := by
  rw [Memory.read_writeBytes, if_neg (Nat.not_le.mpr h)]

theorem Memory.read_writeBytes_above (m : Memory) {a b : Nat} {xs : List Byte} (h : a + xs.length ≤ b) :
    (m.writeBytes a xs).read b = m.read b := by
  rw [Memory.read_writeBytes, if_pos (by omega), List.getD_eq_default _ _ (by omega)]

theorem Memory.read_writeBytes_of_getElem? (m : Memory) {a b : Nat} {xs : List Byte} {x : Byte} (hab : a ≤ b)
    (h : xs[b - a]? = some x) : (m.writeBytes a xs).read b = x := by
  rw [Memory.read_writeBytes, if_pos hab, List.getD_eq_getElem?_getD, h, Option.getD_some]

/-! ### One block below 56 (R142, R151) -/

theorem padLength_of_lt {p : Index} (h : p.toNat < 56) : padLength p = 56 - p.toNat := if_pos h

theorem padLength_of_ge {p : Index} (h : 56 ≤ p.toNat) : padLength p = 120 - p.toNat := if_neg (Nat.not_lt.mpr h)

/-- The one padded block: marker at PLEN, zeros up to offset 55, the length field from offset 56. -/
theorem Memory.read_write_finalBytes (m : Memory) (len : Count) {p : Index} (hp : p.toNat < 56) {j : Nat} (hj : j < 64) :
    (m.writeBytes p.toNat (finalBytes len (padLength p))).read j = if j < p.toNat then m.read j
      else if j = p.toNat then 0x80#8 else if j < 56 then 0x00#8 else len.extractLsb' (8 * (j - 56)) 8 := by
  have hpadn := padLength_of_lt hp
  by_cases hbelow : j < p.toNat
  · rw [if_pos hbelow, Memory.read_writeBytes_below _ _ hbelow]
  · rw [if_neg hbelow]
    refine Memory.read_writeBytes_of_getElem? m (Nat.not_lt.mp hbelow) ?_
    by_cases h56 : j < 56
    · rw [finalBytes_getElem?_of_lt len (by omega), if_pos h56]
      congr 1
      exact if_congr (by omega) rfl rfl
    · rw [finalBytes_getElem?_of_ge len (padLength_range p).1 (by omega) (by omega), if_neg (by omega), if_neg h56]
      congr 3
      omega

/-- With PLEN below 56 what FINAL appends just completes the block. -/
theorem State.appendAll_finalBytes_of_lt {s : State} (hp : s.plen.toNat < 56) (len : Count) :
    s.appendAll (finalBytes len (padLength s.plen)) =
      (s.setBuf (s.buf.writeBytes s.plen.toNat (finalBytes len (padLength s.plen)))).transformBlock.setPlen 0#6 := by
  have hlength := finalBytes_length len (padLength_range s.plen).1
  have hpadn := padLength_of_lt hp
  exact State.appendAll_of_eq (by omega)

/-- Settles O21: the one Transform of FINAL is on the padded block, which BUF goes on showing. -/
theorem finalBuildsOneBlockBelow56 : Obligations.FinalBuildsOneBlockBelow56 := by
  unfold Obligations.FinalBuildsOneBlockBelow56
  intro d s hp
  have hp' : s.plen.toNat < 56 := by omega
  have happend := State.appendAll_finalBytes_of_lt hp' s.count
  refine ⟨(s.buf.writeBytes s.plen.toNat (finalBytes s.count (padLength s.plen))).block, _, exec_final d s,
    fun j hj => ?_, ?_, State.finishDigest_dvalid _,
    ⟨State.finishDigest_acc _, State.finishDigest_count _, State.finishDigest_plen _⟩, fun j hj => ?_, fun a ha => ?_, ?_⟩
  · rw [Memory.block_getElem _ _ hj, Memory.read_write_finalBytes _ _ hp' hj]
  · rw [digestBytes_finishDigest, happend]
    simp
  · rw [Memory.block_getElem _ _ hj, happend]
    simp
  · rw [happend]
    simp only [State.finishDigest_buf, State.setPlen_buf, State.transformBlock_buf, State.setBuf_buf]
    obtain hbelow | habove := ha
    · exact Memory.read_writeBytes_below _ _ hbelow
    · have hlength := finalBytes_length s.count (padLength_range s.plen).1
      have hpadn := padLength_of_lt hp'
      exact Memory.read_writeBytes_above _ (by omega)
  · simp

/-! ### Two blocks from 56 on (R142, R151) -/

/-- The length field's block: fifty-six zeros and the eight bytes of the count. -/
def lengthBlockBytes (len : Count) : List Byte := List.replicate 56 0x00#8 ++ le64 len

@[simp] theorem lengthBlockBytes_length (len : Count) : (lengthBlockBytes len).length = 64 := rfl

theorem lengthBlockBytes_getElem? (len : Count) {j : Nat} (hj : j < 64) : (lengthBlockBytes len)[j]? =
    some (if j < 56 then 0x00#8 else len.extractLsb' (8 * (j - 56)) 8) := by
  unfold lengthBlockBytes
  by_cases h : j < 56
  · rw [List.getElem?_append_left (by simpa using h), List.getElem?_replicate, if_pos h, if_pos h]
  · rw [List.getElem?_append_right (by simpa using h), List.length_replicate, le64_getElem? len (by omega), if_neg h]

/-- With PLEN at 56 or more the padding first completes the block, and the length field stands in a block of its own. -/
theorem finalBytes_split (len : Count) {p : Index} (h : 56 ≤ p.toNat) :
    finalBytes len (padLength p) = paddingBytes (64 - p.toNat) ++ lengthBlockBytes len := by
  have hp := p.isLt
  have hzeros : 120 - p.toNat - 1 = 64 - p.toNat - 1 + 56 := by omega
  simp [finalBytes, paddingBytes, lengthBlockBytes, padLength_of_ge h, hzeros, List.replicate_add]

/-- BUF with the first padded block: marker at PLEN and zeros above it. -/
def State.markerBuf (s : State) : Memory := s.buf.writeBytes s.plen.toNat (paddingBytes (64 - s.plen.toNat))

theorem State.markerBuf_fits (s : State) : s.plen.toNat + (paddingBytes (64 - s.plen.toNat)).length = 64 := by
  have hlt := s.plen.isLt
  rw [paddingBytes_length (by omega)]
  omega

theorem State.markerBuf_read (s : State) {j : Nat} (hj : j < 64) : s.markerBuf.read j =
    if j < s.plen.toNat then s.buf.read j else if j = s.plen.toNat then 0x80#8 else 0x00#8 := by
  unfold State.markerBuf
  by_cases hbelow : j < s.plen.toNat
  · rw [if_pos hbelow, Memory.read_writeBytes_below _ _ hbelow]
  · rw [if_neg hbelow]
    refine Memory.read_writeBytes_of_getElem? s.buf (Nat.not_lt.mp hbelow) ?_
    rw [paddingBytes_getElem? (by omega)]
    congr 1
    exact if_congr (by omega) rfl rfl

theorem State.markerBuf_read_above (s : State) {a : Nat} (ha : 64 ≤ a) : s.markerBuf.read a = s.buf.read a :=
  Memory.read_writeBytes_above _ (s.markerBuf_fits.trans_le ha)

theorem Memory.read_write_lengthBlockBytes (m : Memory) (len : Count) {j : Nat} (hj : j < 64) :
    (m.writeBytes 0 (lengthBlockBytes len)).read j = if j < 56 then 0x00#8 else len.extractLsb' (8 * (j - 56)) 8 :=
  Memory.read_writeBytes_of_getElem? m (Nat.zero_le j) (lengthBlockBytes_getElem? len hj)

/-- With PLEN at 56 or more the appends complete two blocks, one after the other. -/
theorem State.appendAll_finalBytes_of_ge {s : State} (hp : 56 ≤ s.plen.toNat) (len : Count) :
    s.appendAll (finalBytes len (padLength s.plen)) =
      (((s.setBuf s.markerBuf).transformBlock.setPlen 0#6).setBuf
        (s.markerBuf.writeBytes 0 (lengthBlockBytes len))).transformBlock.setPlen 0#6 := by
  rw [finalBytes_split len hp, State.appendAll_append, State.appendAll_of_eq s.markerBuf_fits, ← State.markerBuf,
    State.appendAll_of_eq (by simp)]
  simp

/-- Settles O22: the two Transforms of FINAL are on the block with the marker and on the block of the length field, which
BUF goes on showing. -/
theorem finalBuildsTwoBlocksFrom56 : Obligations.FinalBuildsTwoBlocksFrom56 := by
  unfold Obligations.FinalBuildsTwoBlocksFrom56
  intro d s hp
  have happend := State.appendAll_finalBytes_of_ge hp s.count
  refine ⟨s.markerBuf.block, (s.markerBuf.writeBytes 0 (lengthBlockBytes s.count)).block, _, exec_final d s,
    fun j hj => ?_, fun j hj => ?_, ?_, State.finishDigest_dvalid _,
    ⟨State.finishDigest_acc _, State.finishDigest_count _, State.finishDigest_plen _⟩, fun j hj => ?_, fun a ha => ?_, ?_⟩
  · rw [Memory.block_getElem _ _ hj, State.markerBuf_read s hj]
  · rw [Memory.block_getElem _ _ hj, Memory.read_write_lengthBlockBytes _ _ hj]
  · rw [digestBytes_finishDigest, happend]
    simp
  · rw [Memory.block_getElem _ _ hj, happend]
    simp
  · rw [happend]
    simp only [State.finishDigest_buf, State.setPlen_buf, State.transformBlock_buf, State.setBuf_buf]
    rw [Memory.read_writeBytes_above _ (by simpa using ha), State.markerBuf_read_above s ha]
  · simp

/-! ### The empty message (R155, S1) -/

/-- The padded block of the empty message is the marker alone. -/
theorem emptyMessage_hex :
    (renderHex (serialise (transform Config.initAcc (Memory.block [(0, 0x80#8)])))).map (fun c => Char.ofNat c.toNat) =
      "d41d8cd98f00b204e9800998ecf8427e".toList := by
  decide +kernel

/-- Settles O23: in the initial condition no byte is pending and the count is 0, so that the one block is the marker
followed by zeros. -/
theorem finalOfNothingIsTheEmptyDigest : Obligations.FinalOfNothingIsTheEmptyDigest := by
  unfold Obligations.FinalOfNothingIsTheEmptyDigest
  intro d s h
  obtain ⟨hacc, hcount, hplen⟩ := h
  obtain ⟨blk, t, hexec, hblk, hdg, hvalid, -⟩ := finalBuildsOneBlockBelow56 d s (by simp [hplen])
  have hmarker : blk = Memory.block [(0, 0x80#8)] := by
    apply Vector.ext
    intro j hj
    rw [hblk j hj, Memory.block_getElem _ _ hj, hplen, hcount]
    by_cases h0 : j = 0
    · simp [h0, Memory.read]
    · simp [h0, Memory.read, Config.unlistedByte]
  refine ⟨t, hexec, hvalid, ?_⟩
  rw [hexView, hdg, hacc, hmarker]
  exact emptyMessage_hex

end Sys2Proof.Machine
end

section
/-! PROOF. The finer-grained form (R6, R33): a Transform stepped by its micro-operations, and DATA and FINAL stepped to
their command boundary, give what the commands give whole. -/

namespace Sys2Proof.Machine

theorem stepsFrom_succ_of_step {n : Nat} {s t : State} (h : step s = .next t) :
    stepsFrom (n + 1) s = stepsFrom n t := by
  rw [stepsFrom, h]

/-- One step after a run of steps. -/
theorem stepsFrom_succ_of_stepsFrom {n : Nat} {s t u : State} (h : stepsFrom n s = .next t) (ht : step t = .next u) :
    stepsFrom (n + 1) s = .next u := by
  rw [stepsFrom_add 1 h, stepsFrom_succ_of_step ht, stepsFrom]

/-! ### A Transform (R107, R115, R116) -/

theorem toNat_ofNat_index {k : Nat} (hk : k < 64) : (BitVec.ofNat 6 k).toNat = k := by
  rw [BitVec.toNat_ofNat]
  exact Nat.mod_eq_of_lt hk

/-- The first k + 1 round steps are the first k and then the one that index k selects. -/
theorem runRounds_take_succ {k : Nat} (hk : k < 64) (blk : Block) (q : Quad) : runRounds (roundTable.take (k + 1)) blk q =
    roundStep (tableEntry (BitVec.ofNat 6 k)) blk (runRounds (roundTable.take k) blk q) := by
  have hlength : k < roundTable.length := by rwa [roundTable_length]
  have hentry : tableEntry (BitVec.ofNat 6 k) = roundTable[k] := by
    unfold tableEntry
    congr 1
    exact toNat_ofNat_index hk
  rw [← List.take_concat_get' roundTable k hlength, runRounds_append, hentry]
  rfl

theorem State.setRunning_setRunning (s : State) (r q : Option Running) :
    (s.setRunning r).setRunning q = s.setRunning q := rfl

/-- A step with the Transform's registers given: the round step that the index selects, before the index moves on. -/
theorem step_setRunning {s : State} (hno : s.NoResetNext) (r : Running) : step (s.setRunning (some r)) =
    .next (s.setRunning (some { r with work := roundStep (tableEntry r.index) s.buf.block r.work })).advanceRound := by
  have hr : (s.setRunning (some r)).running = some r := State.setRunning_running s _
  rw [step_of_round (s := s.setRunning (some r)) hno hr, State.roundOp_of_running hr,
    State.setRunning_setRunning, State.setRunning_buf]

/-- After k micro-operations the index is k and the working registers hold what k round steps give. -/
theorem stepsFrom_beginTransform {s : State} (hno : s.NoResetNext) {k : Nat} (hk : k < 64) :
    stepsFrom k s.beginTransform =
      .next (s.setRunning (some ⟨BitVec.ofNat 6 k, runRounds (roundTable.take k) s.buf.block s.acc⟩)) := by
  induction k with
  | zero => rfl
  | succ k ih =>
    refine stepsFrom_succ_of_stepsFrom (ih (by omega)) ?_
    have hne : BitVec.ofNat 6 k ≠ 63#6 := fun h => by
      have htoNat := congrArg BitVec.toNat h
      rw [toNat_ofNat_index (by omega), BitVec.toNat_ofNat] at htoNat
      omega
    rw [step_setRunning hno, ← runRounds_take_succ (by omega),
      State.advanceRound_of_ne (State.setRunning_running _ _) hne, State.setRunning_setRunning, BitVec.ofNat_add]

/-- After the sixty-fourth the feed-forward ends the Transform. -/
theorem stepsFrom_transform {s : State} (hno : s.NoResetNext) :
    stepsFrom 64 s.beginTransform = .next ((s.transformBlock.setPlen 0#6).setRunning none) := by
  refine stepsFrom_succ_of_stepsFrom (stepsFrom_beginTransform hno (k := 63) (by omega)) ?_
  have hall : roundTable.take (63 + 1) = roundTable := List.take_of_length_le (by rw [roundTable_length])
  rw [step_setRunning hno, ← runRounds_take_succ (by omega), hall,
    State.advanceRound_of_last (State.setRunning_running _ _) rfl, State.endTransform, State.transformBlock, transform]
  rfl

/-- Settles O33: an induction over the number of micro-operations, and the feed-forward after the last. -/
theorem transformIsSixtyFourRoundSteps : Obligations.TransformIsSixtyFourRoundSteps := by
  unfold Obligations.TransformIsSixtyFourRoundSteps
  exact fun s hno => stepsFrom_transform hno

/-! ### An append and its Transform (R128, R145) -/

/-- The begun append, with the steps of the Transform if the block is complete, is the append. -/
theorem stepsFrom_beginAppend {s : State} (hr : s.running = none) (hno : s.NoResetNext) (x : Byte) :
    stepsFrom (if s.plen.toNat = 63 then 64 else 0) (s.beginAppend x) = .next (s.append x) := by
  by_cases h : s.plen = 63#6
  · have hrun : s.append x = (s.append x).setRunning none := by apply State.ext_fields <;> simp [hr]
    rw [if_pos (by rw [h]; rfl), State.beginAppend_of_full h, stepsFrom_transform (s := s.writePending x) hno, hrun,
      State.append_of_full h]
  · have hne : s.plen.toNat ≠ 63 := fun hp => h (BitVec.eq_of_toNat_eq hp)
    rw [if_neg hne, State.beginAppend_of_ne h, stepsFrom]

/-- Settles O34: DATA is its COUNT line and an append. -/
theorem dataIsItsFinerGrainedSteps : Obligations.DataIsItsFinerGrainedSteps := by
  unfold Obligations.DataIsItsFinerGrainedSteps
  intro b s hb hno
  rw [exec_data]
  exact stepsFrom_beginAppend (s := s.setCount (inc64 s.count)) hb.1 hno b

/-! ### FINAL (R141 to R151) -/

/-- What an append does to A, B, C, D follows from A, B, C, D, PLEN and BUF. -/
theorem State.append_acc_congr {s t : State} (hacc : t.acc = s.acc) (hplen : t.plen = s.plen) (hbuf : t.buf = s.buf)
    (x : Byte) : (t.append x).acc = (s.append x).acc := by
  by_cases h : s.plen = 63#6
  · rw [State.append_of_full h, State.append_of_full (hplen.trans h)]
    simp [hacc, hplen, hbuf]
  · rw [State.append_of_ne h, State.append_of_ne (hplen ▸ h)]
    simp [hacc]

theorem State.append_setFinishing (s : State) (f : Option Finishing) (x : Byte) :
    (s.setFinishing f).append x = (s.append x).setFinishing f := by
  have hacc := State.append_acc_congr (s := s) (t := s.setFinishing f) rfl rfl rfl x
  apply State.ext_fields <;> simp [hacc, State.append_plen, State.append_buf]

theorem State.padStep_of_some {s : State} {f : Finishing} {x : Byte} (h : (finalBytes f.len f.padn)[f.pos]? = some x) :
    s.padStep f = (s.setFinishing (some { f with pos := f.pos + 1 })).beginAppend x := by
  rw [State.padStep, h]

theorem State.padStep_of_none {s : State} {f : Finishing} (h : (finalBytes f.len f.padn)[f.pos]? = none) :
    s.padStep f = s.finishDigest.setFinishing none := by
  rw [State.padStep, h]

/-- From any position the padding engine appends the bytes left, one step for each and sixty-four for each block that
they complete. -/
theorem stepsFrom_padding {s : State} (hr : s.running = none) (hno : s.NoResetNext) {len : Count} {padn pos : Nat}
    {xs : List Byte} (hxs : (finalBytes len padn).drop pos = xs) :
    stepsFrom (xs.length + 64 * ((s.plen.toNat + xs.length) / 64)) (s.setFinishing (some ⟨len, padn, pos⟩)) =
      .next ((s.appendAll xs).setFinishing (some ⟨len, padn, pos + xs.length⟩)) := by
  induction xs generalizing s pos with
  | nil =>
    have hlt := s.plen.isLt
    have hzero : ([] : List Byte).length + 64 * ((s.plen.toNat + ([] : List Byte).length) / 64) = 0 := by simp; omega
    rw [hzero]
    rfl
  | cons x xs ih =>
    have hx : (finalBytes len padn)[pos]? = some x := by
      simpa [hxs] using (List.getElem?_drop (xs := finalBytes len padn) (i := pos) (j := 0)).symm
    have hrest : (finalBytes len padn).drop (pos + 1) = xs := by rw [← List.tail_drop, hxs, List.tail_cons]
    have hpad : step (s.setFinishing (some ⟨len, padn, pos⟩)) =
        .next ((s.setFinishing (some ⟨len, padn, pos + 1⟩)).beginAppend x) := by
      rw [step_of_finishing (s := s.setFinishing (some ⟨len, padn, pos⟩)) hno hr rfl, State.padStep_of_some hx]
      rfl
    have hbyte : stepsFrom (if s.plen.toNat = 63 then 64 else 0)
        ((s.setFinishing (some ⟨len, padn, pos + 1⟩)).beginAppend x) =
        .next ((s.append x).setFinishing (some ⟨len, padn, pos + 1⟩)) := by
      rw [← State.append_setFinishing]
      exact stepsFrom_beginAppend (s := s.setFinishing (some ⟨len, padn, pos + 1⟩)) hr hno x
    have hcost : (x :: xs).length + 64 * ((s.plen.toNat + (x :: xs).length) / 64) =
        (if s.plen.toNat = 63 then 64 else 0) + (xs.length + 64 * (((s.append x).plen.toNat + xs.length) / 64)) + 1 := by
      have hlt := s.plen.isLt
      have hplen : (s.append x).plen.toNat = (s.plen.toNat + 1) % 64 := by
        rw [State.append_plen]
        exact BitVec.toNat_add s.plen 1#6
      rw [hplen, List.length_cons]
      split <;> omega
    rw [hcost, stepsFrom_succ_of_step hpad, stepsFrom_add _ hbyte,
      ih (s := s.append x) ((s.append_running x).trans hr) (fun w rest => s.append_port x ▸ hno w rest) hrest,
      State.appendAll_cons, List.length_cons, Nat.add_right_comm pos, Nat.add_assoc pos]

/-- Settles O35: the padding engine's steps from position 0 on, and the delivery when it finds no byte left. -/
theorem finalIsItsFinerGrainedSteps : Obligations.FinalIsItsFinerGrainedSteps := by
  unfold Obligations.FinalIsItsFinerGrainedSteps
  intro d s hb hno
  obtain ⟨hr, hf⟩ := hb
  have hlength := finalBytes_length s.count (padLength_range s.plen).1
  have hpad := stepsFrom_padding hr hno (List.drop_zero (l := finalBytes s.count (padLength s.plen)))
  have hcost : padLength s.plen + 8 + 64 * ((s.plen.toNat + (padLength s.plen + 8)) / 64) =
      padLength s.plen + 8 + 64 * (if s.plen.toNat < 56 then 1 else 2) := by
    have hlt := s.plen.isLt
    unfold padLength
    split <;> omega
  rw [hlength, hcost, Nat.zero_add] at hpad
  have hend : (finalBytes s.count (padLength s.plen))[padLength s.plen + 8]? = none :=
    List.getElem?_eq_none hlength.le
  rw [exec_final]
  refine stepsFrom_succ_of_stepsFrom hpad ?_
  rw [step_of_finishing (fun w rest => by simpa using hno w rest) (by simpa using hr) (State.setFinishing_finishing _ _),
    State.padStep_of_none hend]
  refine congrArg Host.Outcome.next (State.ext_fields ?_ ?_ ?_ ?_ ?_ ?_ ?_ ?_ ?_ ?_) <;> simp [hf]

end Sys2Proof.Machine
end

section
/-! PROOF. What only some instructions change: the outputs by FINAL and a reset (R29, R30), the accumulators, COUNT, PLEN
and BUF by the commands that end or extend a message (R21, R24, R25, R40). -/

namespace Sys2Proof.Machine

/-! ### The outputs (R29, R30, R149) -/

theorem exec_keeps_outputs {i : Instr} (hi : ∀ d, i ≠ .final d) (s : State) :
    ∃ t, exec i s = .next t ∧ t.digest = s.digest ∧ t.dvalid = s.dvalid := by
  obtain ⟨d, rfl⟩ | ⟨b, rfl⟩ | ⟨d, rfl⟩ | ⟨d, rfl⟩ | ⟨k, rfl⟩ := instr_cases i
  · exact ⟨_, exec_idle d s, rfl, rfl⟩
  · exact ⟨_, exec_data b s, State.append_digest _ b, State.append_dvalid _ b⟩
  · exact absurd rfl (hi d)
  · exact ⟨_, exec_init d s, s.initial_digest, s.initial_dvalid⟩
  · exact ⟨_, exec_decode_round k s, s.roundOp_digest _, s.roundOp_dvalid _⟩

theorem exec_beat_keeps_dvalid {s : State} (h : s.dvalid = true) (w : Beat) :
    ∃ t, exec (decode (.beat w)) s = .next t ∧ t.dvalid = true := by
  obtain ⟨d, hw⟩ | ⟨b, hw⟩ | ⟨d, hw⟩ | ⟨d, hw⟩ := decode_beat_cases w <;> rw [hw]
  · exact ⟨_, exec_idle d s, h⟩
  · exact ⟨_, exec_data b s, (State.append_dvalid _ b).trans h⟩
  · exact ⟨_, exec_final d s, State.finishDigest_dvalid _⟩
  · exact ⟨_, exec_init d s, s.initial_dvalid.trans h⟩

theorem State.advanceRound_dvalid (s : State) : s.advanceRound.dvalid = s.dvalid := by
  unfold State.advanceRound
  split
  · split <;> simp
  · rfl

theorem State.beginAppend_dvalid (s : State) (x : Byte) : (s.beginAppend x).dvalid = s.dvalid := by
  unfold State.beginAppend
  split <;> simp

/-- The padding engine leaves DVALID as it is until it delivers. -/
theorem State.padStep_dvalid {s : State} (h : s.dvalid = true) (f : Finishing) : (s.padStep f).dvalid = true := by
  unfold State.padStep
  split
  · rw [State.beginAppend_dvalid, State.setFinishing_dvalid, h]
  · simp

/-- In every situation but that of a reset, DVALID stays set. -/
theorem step_keeps_dvalid {s : State} (hno : s.NoResetNext) (h : s.dvalid = true) :
    ∃ t, step s = .next t ∧ t.dvalid = true := by
  obtain ⟨w, rest, hp⟩ | ⟨-, r, hr⟩ | ⟨-, hr, f, hf⟩ | ⟨hb, w, rest, hp⟩ | ⟨hb, hp⟩ := s.situations
  · exact absurd hp (hno w rest)
  · refine ⟨_, step_of_round hno hr, ?_⟩
    rw [State.advanceRound_dvalid, State.roundOp_dvalid, h]
  · exact ⟨_, step_of_finishing hno hr hf, State.padStep_dvalid h f⟩
  · rw [step_of_beat hb hp]
    exact exec_beat_keeps_dvalid (s := s.setPort rest) h w
  · exact ⟨_, step_of_nothing hb hp, h⟩

/-- Settles O50: the instructions case by case, and the step without a reset. -/
theorem onlyFinalWritesTheOutputs : Obligations.OnlyFinalWritesTheOutputs := by
  unfold Obligations.OnlyFinalWritesTheOutputs
  refine ⟨fun i s hi => exec_keeps_outputs hi s, fun d s => ⟨_, exec_final d s, State.finishDigest_dvalid _⟩,
    fun s t ht hs hclear => ?_⟩
  by_contra hreset
  obtain ⟨u, hu, hset⟩ := step_keeps_dvalid (fun w rest h => hreset ⟨w, rest, h⟩) hs
  obtain rfl := Host.Outcome.next.inj (hu.symm.trans ht)
  exact Bool.false_ne_true (hclear.symm.trans hset)

/-! ### The accumulators, the counters and BUF (R21, R24, R25, R40) -/

/-- Settles O51: IDLE and the micro-operations keep all four, INIT keeps BUF, and DATA keeps the accumulators unless its
byte completes the block. -/
theorem accumulatorsChangeOnlyAtBlockEnds : Obligations.AccumulatorsChangeOnlyAtBlockEnds := by
  unfold Obligations.AccumulatorsChangeOnlyAtBlockEnds
  intro i s t ht
  obtain ⟨d, rfl⟩ | ⟨b, rfl⟩ | ⟨d, rfl⟩ | ⟨d, rfl⟩ | ⟨k, rfl⟩ := instr_cases i
  · obtain rfl := Host.Outcome.next.inj ((exec_idle d s).symm.trans ht)
    simp
  · obtain rfl := Host.Outcome.next.inj ((exec_data b s).symm.trans ht)
    refine ⟨fun hacc => .inr (.inr ⟨⟨b, rfl⟩, ?_⟩), fun _ => .inr (.inr ⟨b, rfl⟩), fun _ => .inr ⟨b, rfl⟩⟩
    by_contra hne
    have hbelow : (s.setCount (inc64 s.count)).plen.toNat ≠ 63 := fun hp => hne (BitVec.eq_of_toNat_eq hp)
    exact hacc (State.append_below_63 hbelow b).1
  · exact ⟨fun _ => .inr (.inl ⟨d, rfl⟩), fun _ => .inr (.inl ⟨d, rfl⟩), fun _ => .inl ⟨d, rfl⟩⟩
  · obtain rfl := Host.Outcome.next.inj ((exec_init d s).symm.trans ht)
    refine ⟨fun _ => .inl ⟨d, rfl⟩, fun _ => .inl ⟨d, rfl⟩, fun ⟨a, ha⟩ => absurd (s.initial_sameBytes a) ha⟩
  · obtain rfl := Host.Outcome.next.inj ((exec_decode_round k s).symm.trans ht)
    simp

end Sys2Proof.Machine
end

section
/-! PROOF. Whole messages (R130 to R133, R152): UPDATE as one run of appends, the blocks that a run of appends absorbs, the
closed form of a digest, and the host's computations (44_host_convenience). -/

namespace Sys2Proof.Machine

/-! ### Sequences of commands (R51, R131) -/

theorem execAll_cons_of_exec {i : Instr} {is : List Instr} {s t : State} (h : exec i s = .next t) :
    execAll (i :: is) s = execAll is t := by
  rw [execAll, h]

/-- Settles O52: the beats of the chunks are the beats of their concatenation, and an IDLE beat does nothing. -/
theorem splitsAndIdlesLeaveNoTrace : Obligations.SplitsAndIdlesLeaveNoTrace := by
  unfold Obligations.SplitsAndIdlesLeaveNoTrace
  refine ⟨fun chunks s => ?_, fun is s => ?_⟩
  · have hbeats : chunks.flatMap update = update chunks.flatten := by
      rw [List.flatMap_def, update, List.map_flatten]
      rfl
    rw [hbeats]
  · induction is generalizing s with
    | nil => rfl
    | cons i is ih =>
      cases i with
      | idle d => exact (ih s).trans (execAll_cons_of_exec (exec_idle d s)).symm
      | _ =>
        obtain ⟨t, ht⟩ := exec_defined _ s
        exact (execAll_cons_of_exec ht).trans ((ih t).trans (execAll_cons_of_exec ht).symm)

/-! ### UPDATE as a run of appends (R130) -/

theorem State.appendAll_setCount (s : State) (c : Count) (xs : List Byte) :
    (s.setCount c).appendAll xs = (s.appendAll xs).setCount c := by
  induction xs generalizing s with
  | nil => rfl
  | cons x xs ih => rw [State.appendAll_cons, State.appendAll_cons, State.append_setCount, ih]

/-- UPDATE appends its bytes, and counts eight bits for each of them. -/
theorem execAll_update (xs : List Byte) (s : State) : execAll (update xs) s =
    .next ((s.appendAll xs).setCount (s.count + BitVec.ofNat 64 (8 * xs.length))) := by
  induction xs generalizing s with
  | nil =>
    have hcount : s.count + BitVec.ofNat 64 (8 * ([] : List Byte).length) = s.count := BitVec.add_zero s.count
    rw [hcount]
    rfl
  | cons x xs ih =>
    have hcount : inc64 s.count + BitVec.ofNat 64 (8 * xs.length) =
        s.count + BitVec.ofNat 64 (8 * (x :: xs).length) := by
      rw [inc64, List.length_cons, Nat.mul_succ, Nat.add_comm, BitVec.ofNat_add, BitVec.add_assoc]
    have hdata := exec_data x s
    rw [State.append_setCount] at hdata
    rw [update, List.map_cons, execAll_cons_of_exec hdata, ← update, ih, State.appendAll_setCount,
      State.setCount_setCount, State.setCount_count, hcount, State.appendAll_cons]

/-! ### Whole blocks of a byte sequence (R132, R152) -/

theorem blockAt_getElem (w : List Byte) (k : Nat) {j : Nat} (hj : j < 64) :
    (blockAt w k)[j] = w.getD (64 * k + j) 0x00#8 := by
  simp [blockAt]

theorem wholeBlocks_of_lt {w : List Byte} (h : w.length < 64) : wholeBlocks w = [] := by
  rw [wholeBlocks, Nat.div_eq_of_lt h]
  rfl

/-- The first block, then the blocks of what follows it. -/
theorem wholeBlocks_of_ge {w : List Byte} (h : 64 ≤ w.length) :
    wholeBlocks w = blockAt w 0 :: wholeBlocks (w.drop 64) := by
  have hlength : w.length / 64 = (w.drop 64).length / 64 + 1 := by rw [List.length_drop]; omega
  have hshift : ∀ k, blockAt w (k + 1) = blockAt (w.drop 64) k := fun k => by
    apply Vector.ext
    intro j hj
    have hindex : 64 * (k + 1) + j = 64 + (64 * k + j) := by omega
    rw [blockAt_getElem _ _ hj, blockAt_getElem _ _ hj, List.getD_eq_getElem?_getD, List.getD_eq_getElem?_getD,
      List.getElem?_drop, hindex]
  rw [wholeBlocks, hlength, List.range_succ_eq_map, List.map_cons, List.map_map, wholeBlocks]
  congr 1
  exact List.map_congr_left fun k _ => hshift k

/-! ### The pending bytes and the blocks of a run of appends (R26, R132) -/

@[simp] theorem State.pending_length (s : State) : s.pending.length = s.plen.toNat := by simp [State.pending]

theorem State.pending_of_plen_zero {s : State} (h : s.plen = 0#6) : s.pending = [] := by
  rw [State.pending, h]
  rfl

/-- An append below 63 puts its byte behind the pending ones. -/
theorem State.append_pending_below_63 {s : State} (h : s.plen.toNat ≠ 63) (x : Byte) :
    (s.append x).pending = s.pending ++ [x] := by
  have hold : ∀ a ∈ List.range s.plen.toNat, (s.append x).buf.read a = s.buf.read a := fun a ha => by
    rw [State.append_buf_read, if_neg (List.mem_range.mp ha).ne]
  rw [State.pending, (State.append_below_63 h x).2, List.range_succ, List.map_append, List.map_congr_left hold,
    List.map_singleton, State.append_buf_read, if_pos rfl, ← State.pending]

/-- The append at 63 makes the block of the pending bytes and its own, which are the first of the sequence. -/
theorem State.append_block_at_63 {s : State} (h : s.plen.toNat = 63) (x : Byte) (xs : List Byte) :
    (s.append x).buf.block = blockAt (s.pending ++ x :: xs) 0 := by
  apply Vector.ext
  intro j hj
  rw [Memory.block_getElem _ _ hj, State.append_buf_read, blockAt_getElem _ _ hj, List.getD_eq_getElem?_getD, h]
  by_cases hlast : j = 63
  · rw [if_pos hlast, List.getElem?_append_right (by simp [h, hlast])]
    simp [h, hlast]
  · rw [if_neg hlast, List.getElem?_append_left (by simp [h]; omega)]
    have hin : j < s.plen.toNat := by omega
    simp [State.pending, hin]

/-- A run of appends absorbs the whole blocks of the pending bytes and its own, and leaves the rest pending. -/
theorem State.appendAll_absorbs (s : State) (xs : List Byte) :
    (s.appendAll xs).acc = absorb s.acc (wholeBlocks (s.pending ++ xs)) ∧
      (s.appendAll xs).pending = (s.pending ++ xs).drop (64 * ((s.pending ++ xs).length / 64)) := by
  induction xs generalizing s with
  | nil =>
    have hlt : (s.pending ++ []).length < 64 := by simpa using s.plen.isLt
    rw [wholeBlocks_of_lt hlt, Nat.div_eq_of_lt hlt]
    simp [absorb]
  | cons x xs ih =>
    obtain ⟨hacc, hpending⟩ := ih (s.append x)
    rw [State.appendAll_cons, hacc, hpending]
    by_cases h : s.plen.toNat = 63
    · obtain ⟨hacc', hplen'⟩ := State.append_at_63 h x
      have hge : 64 ≤ (s.pending ++ x :: xs).length := by simp [h]; omega
      have hdrop : (s.pending ++ x :: xs).drop 64 = xs := by
        rw [List.append_cons, List.drop_left' (by simp [h])]
      have hlength : 64 * ((s.pending ++ x :: xs).length / 64) = 64 + 64 * (xs.length / 64) := by
        simp only [List.length_append, State.pending_length, List.length_cons, h]
        omega
      rw [State.pending_of_plen_zero hplen', List.nil_append, wholeBlocks_of_ge hge, hdrop, hlength, ← List.drop_drop,
        hdrop, hacc', State.append_block_at_63 h x xs]
      exact ⟨rfl, rfl⟩
    · rw [State.append_pending_below_63 h, (State.append_below_63 h x).1, List.append_assoc]
      exact ⟨rfl, rfl⟩

theorem State.appendAll_sameOutside (s : State) (xs : List Byte) : SameOutside s (s.appendAll xs) :=
  ⟨s.appendAll_digest xs, s.appendAll_dvalid xs, s.appendAll_running xs, s.appendAll_finishing xs, s.appendAll_port xs,
    s.appendAll_draws xs⟩

/-- Settles O53: UPDATE is a run of appends with its bytes counted. -/
theorem updateProcessesWholeBlocks : Obligations.UpdateProcessesWholeBlocks := by
  unfold Obligations.UpdateProcessesWholeBlocks
  intro xs s
  obtain ⟨hacc, hpending⟩ := s.appendAll_absorbs xs
  refine ⟨_, execAll_update xs s, ?_, hacc, ?_, hpending, s.appendAll_sameOutside xs⟩
  · rw [State.setCount_count, BitVec.toNat_add, BitVec.toNat_ofNat, Nat.add_mod_mod]
  · rw [State.setCount_plen, State.appendAll_plen_toNat, List.length_append, State.pending_length]

end Sys2Proof.Machine
end

section
/-! PROOF. The closed form of a digest (R152) and the host's computations (44_host_convenience): a message by UPDATE and
FINAL, presented at the port, and the three forms of calculate. -/

namespace Sys2Proof.Machine

/-! ### A message and FINAL (R152) -/

/-- What FINAL appends to a message of whole bytes makes it the padded message. -/
theorem append_finalBytes_eq_padMessage (x : List Byte) {p : Index} (hp : p.toNat = x.length % 64) :
    x ++ finalBytes (BitVec.ofNat 64 (8 * x.length)) (padLength p) = padMessage x := by
  have hzeros : padLength p - 1 = zeroCount x.length := by
    unfold padLength zeroCount
    split <;> omega
  simp [finalBytes, paddingBytes, padMessage, hzeros]

theorem hexView_of_digestBytes {d : Digest} {x : List Byte} (h : digestBytes d = messageDigest x) :
    hexView d = messageHex x := by
  rw [hexView, h, messageHex]

/-- From the initial condition UPDATE leaves nothing pending before the message, so that FINAL's appends absorb the blocks
of the padded message. -/
theorem execAll_message {s : State} (h : s.IsInitial) (x : List Byte) (d : Byte) :
    ∃ t, execAll (update x ++ [.final d]) s = .next t ∧ digestBytes t.digest = messageDigest x ∧ t.dvalid = true ∧
      t.IsInitial ∧ t.running = s.running ∧ t.finishing = s.finishing ∧ t.port = s.port := by
  obtain ⟨hacc, hcount, hplen⟩ := h
  have hupdate := execAll_update x s
  rw [hcount, BitVec.zero_add] at hupdate
  have hfinal := execAll_cons_of_exec (is := []) (exec_final d ((s.appendAll x).setCount (BitVec.ofNat 64 (8 * x.length))))
  refine ⟨_, (execAll_append hupdate).trans hfinal, ?_, State.finishDigest_dvalid _,
    ⟨State.finishDigest_acc _, State.finishDigest_count _, State.finishDigest_plen _⟩, by simp, by simp, by simp⟩
  have hp : (s.appendAll x).plen.toNat = x.length % 64 := by
    rw [State.appendAll_plen_toNat, hplen, BitVec.toNat_ofNat, Nat.zero_add]
  rw [digestBytes_finishDigest, State.appendAll_setCount, State.setCount_acc, State.setCount_count, State.setCount_plen,
    ← State.appendAll_append, append_finalBytes_eq_padMessage x hp, (State.appendAll_absorbs s _).1, hacc,
    State.pending_of_plen_zero hplen, List.nil_append, messageDigest]

/-! ### Commands presented at the port (R61, R73) -/

theorem State.append_setPort (s : State) (p : List Input) (x : Byte) :
    (s.setPort p).append x = (s.append x).setPort p := by
  have hacc := State.append_acc_congr (s := s) (t := s.setPort p) rfl rfl rfl x
  apply State.ext_fields <;> simp [hacc, State.append_plen, State.append_buf]

theorem State.appendAll_setPort (s : State) (p : List Input) (xs : List Byte) :
    (s.setPort p).appendAll xs = (s.appendAll xs).setPort p := by
  induction xs generalizing s with
  | nil => rfl
  | cons x xs ih => rw [State.appendAll_cons, State.appendAll_cons, State.append_setPort, ih]

theorem State.finishDigest_setPort (s : State) (p : List Input) :
    (s.setPort p).finishDigest = s.finishDigest.setPort p := rfl

/-- No instruction reads or takes the inputs: the step takes its beat off before. -/
theorem exec_setPort {i : Instr} {s t : State} (h : exec i s = .next t) (p : List Input) :
    exec i (s.setPort p) = .next (t.setPort p) := by
  obtain ⟨d, rfl⟩ | ⟨b, rfl⟩ | ⟨d, rfl⟩ | ⟨d, rfl⟩ | ⟨k, rfl⟩ := instr_cases i
  · obtain rfl := Host.Outcome.next.inj ((exec_idle d s).symm.trans h)
    rfl
  · obtain rfl := Host.Outcome.next.inj ((exec_data b s).symm.trans h)
    rw [exec_data, ← State.append_setPort]
    rfl
  · obtain rfl := Host.Outcome.next.inj ((exec_final d s).symm.trans h)
    rw [exec_final, State.appendAll_setPort, State.finishDigest_setPort, State.setPort_count, State.setPort_plen]
  · obtain rfl := Host.Outcome.next.inj ((exec_init d s).symm.trans h)
    rfl
  · obtain rfl := Host.Outcome.next.inj ((exec_decode_round k s).symm.trans h)
    rw [exec_decode_round]
    rfl

/-- No command performed at a boundary leads into a command (assumption log 6). -/
theorem exec_atBoundary {i : Instr} {s t : State} (hb : s.AtBoundary) (h : exec i s = .next t) : t.AtBoundary := by
  obtain ⟨hr, hf⟩ := hb
  obtain ⟨d, rfl⟩ | ⟨b, rfl⟩ | ⟨d, rfl⟩ | ⟨d, rfl⟩ | ⟨k, rfl⟩ := instr_cases i
  · obtain rfl := Host.Outcome.next.inj ((exec_idle d s).symm.trans h)
    exact ⟨hr, hf⟩
  · obtain rfl := Host.Outcome.next.inj ((exec_data b s).symm.trans h)
    exact ⟨by simpa using hr, by simpa using hf⟩
  · obtain rfl := Host.Outcome.next.inj ((exec_final d s).symm.trans h)
    exact ⟨by simpa using hr, by simpa using hf⟩
  · obtain rfl := Host.Outcome.next.inj ((exec_init d s).symm.trans h)
    exact ⟨by simpa using hr, by simpa using hf⟩
  · obtain rfl := Host.Outcome.next.inj ((exec_decode_round k s).symm.trans h)
    exact ⟨by simp [hr], by simpa using hf⟩

theorem present_cons_of_encode {i : Instr} {w : Beat} (h : encode i = .beat w) (is : List Instr) :
    present (i :: is) = .beat w :: present is := by
  rw [present, List.filterMap_cons_some (b := .beat w) (by rw [inputOf, h])]
  rfl

/-- One step for each command presented performs the sequence, the further inputs still to come. -/
theorem stepsFrom_present {is : List Instr} (his : ∀ i ∈ is, ∃ w, encode i = .beat w) {s : State} (hb : s.AtBoundary)
    (rest : List Input) : stepsFrom is.length (s.setPort (present is ++ rest)) = execAll is (s.setPort rest) := by
  induction is generalizing s with
  | nil => rfl
  | cons i is ih =>
    obtain ⟨w, hw⟩ := his i List.mem_cons_self
    obtain ⟨t, ht⟩ := exec_defined i s
    have hstep : step (s.setPort (present (i :: is) ++ rest)) = .next (t.setPort (present is ++ rest)) := by
      rw [step_of_beat (s := s.setPort (present (i :: is) ++ rest)) hb (by rw [present_cons_of_encode hw]; rfl), ← hw,
        decode_encode]
      exact exec_setPort ht _
    rw [List.length_cons, stepsFrom_succ_of_step hstep, execAll_cons_of_exec (exec_setPort ht rest)]
    exact ih (fun j hj => his j (List.mem_cons_of_mem i hj)) (exec_atBoundary hb ht)

/-- Settles O54: the steps on the presented beats are the commands performed one after another. -/
theorem messageDigestClosedForm : Obligations.MessageDigestClosedForm := by
  unfold Obligations.MessageDigestClosedForm
  intro x d s rest h hb
  have hbeats : ∀ i ∈ update x ++ [Instr.final d], ∃ w, encode i = .beat w := by
    intro i hi
    obtain hi | rfl : i ∈ update x ∨ i = .final d := by simpa using hi
    · obtain ⟨b, -, rfl⟩ := List.mem_map.mp hi
      exact ⟨_, rfl⟩
    · exact ⟨_, rfl⟩
  have hlength : (update x ++ [Instr.final d]).length = x.length + 1 := by simp [update]
  have hsteps := stepsFrom_present hbeats hb rest
  obtain ⟨t, ht, hdigest, hvalid, hinitial, hr, hf, hport⟩ := execAll_message (s := s.setPort rest) h x d
  rw [hlength, ht] at hsteps
  exact ⟨t, hsteps, hdigest, hexView_of_digestBytes hdigest, hvalid, hinitial, ⟨hr.trans hb.1, hf.trans hb.2⟩, hport⟩

/-! ### The host's computations (R161 to R165) -/

theorem HostRun.report_of_failure {h : HostRun} {e : HostError} (he : h.failure = some e) (s : State) :
    h.report s = some (.error e) := by
  rw [HostRun.report, he]

theorem HostRun.report_of_next {h : HostRun} (he : h.failure = none) {s t : State}
    (ht : execAll h.presented s = .next t) : h.report s = some (.ok (hexView t.digest)) := by
  rw [HostRun.report, he, ht]

/-- Settles O55: INIT establishes the initial condition, from which the message and FINAL give the closed form. -/
theorem calculateReportsTheMessageDigest : Obligations.CalculateReportsTheMessageDigest := by
  unfold Obligations.CalculateReportsTheMessageDigest
  intro x s
  have hinitial : s.initial.IsInitial := ⟨s.initial_acc, s.initial_count, s.initial_plen⟩
  obtain ⟨t, ht, hdigest, -⟩ := execAll_message hinitial x 0x00#8
  have hcalc : execAll (calculateBytes x).presented s = .next t := (execAll_cons_of_exec (exec_init 0x00#8 s)).trans ht
  rw [HostRun.report_of_next rfl hcalc, hexView_of_digestBytes hdigest]

theorem calculateStream_of_clean {reads : List ReadResult} (h : streamFailure reads = none) :
    calculateStream reads = calculateBytes (streamBytes reads) := by
  rw [calculateStream, h, calculateBytes]

theorem calculateStream_of_failure {reads : List ReadResult} {e : HostError} (h : streamFailure reads = some e) :
    calculateStream reads = ⟨.init 0x00#8 :: update (streamBytes reads), some e⟩ := by
  rw [calculateStream, h]

/-- A stream fails in one way only. -/
theorem eq_streamRead_of_streamFailure {reads : List ReadResult} {e : HostError} (h : streamFailure reads = some e) :
    e = .streamRead := by
  induction reads with
  | nil => cases h
  | cons read reads ih =>
    cases read with
    | bytes chunk => exact ih h
    | endOfData => cases h
    | broke => exact (Option.some.inj h).symm

/-- Settles O56: a clean stream is the buffer of its bytes; a broken one presents INIT and DATA beats only, and the host
reports its own failure. -/
theorem streamFormAgreesAndNeverHidesAFault : Obligations.StreamFormAgreesAndNeverHidesAFault := by
  unfold Obligations.StreamFormAgreesAndNeverHidesAFault
  refine ⟨fun reads s h => by rw [calculateStream_of_clean h], fun reads e s h => ?_, fun f s h => ?_⟩
  · rw [calculateStream_of_failure h]
    exact ⟨eq_streamRead_of_streamFailure h, HostRun.report_of_failure rfl s, fun d => by simp [update]⟩
  · have hrun : calculatePath f = ⟨[], some .fileOpen⟩ := by simp [calculatePath, h]
    rw [hrun]
    exact ⟨rfl, HostRun.report_of_failure rfl s⟩

end Sys2Proof.Machine
end
